-- ==== Sys2Proof/Word.lean ====
section
/-! DEFINITION. The word type: the block's only word is the byte (00_scope.md R9; 20_memory.md R60). -/

namespace Sys2Proof

/-- A byte: 8 bits, an unsigned number 0 to 255, bit 0 the least significant (R9). -/
abbrev Byte := BitVec 8

/-- A byte sequence, index 0 first (R9, R58). -/
abbrev Bytes := List Byte

end Sys2Proof
end

