-- ==== Sys2Proof/Config.lean ====
section
/-! DEFINITION. The constants the source fixes (00_scope.md R6, R7), the endpoints and their UUIDs (20_memory.md R50,
R52), and the parameters of an instance that the spec leaves open (R8). -/

namespace Sys2Proof

/-- The five endpoints of the characteristic space (R50). -/
inductive Endpoint where
  | antidos
  | wakecpu
  | txpower
  | roll
  | notify
deriving DecidableEq, Repr

/-- A characteristic handle: an opaque value of which the block uses nothing (R24). The spec gives no width and takes
the type as a parameter with decidable equality (D23); natural numbers stand for any such type, since the step commutes with
every renaming of them (the statement HandlesOpaque). DESIGN CHOICE, safe: log entry 6. -/
abbrev Handle := Nat

/-- A device address: opaque, read only by the transport (R31, D23), and free in the same way: log entry 6. -/
abbrev DeviceAddr := Nat

/-- What an op code of a request can name (R95); the names of the reserved codes are those of their default numbers (R97). -/
inductive OpName where
  | connect
  | cmd
  | disconnect
  | encode
  | decode
  | reserved5
  | reserved6
  | reserved7
deriving DecidableEq, Repr

/-- `RESULT_CODE` (R8): the number of each result and of each sub-code (R191). -/
structure ResultCodes where
  ok : Nat
  oversizedPayload : Nat
  characteristicNotFound : Nat
  handshakeFailed : Nat
  transportError : Nat
  sessionClosed : Nat
  illegalOp : Nat
  frameRejected : Nat
  connectionLost : Nat
  writeTimeout : Nat
  notAcknowledged : Nat
  tooShort : Nat
  badStart : Nat
  badSync : Nat
  badLength : Nat
  badChecksum : Nat
deriving DecidableEq, Repr

/-- When CONNECT registers the notification handler (R8 `SUBSCRIBE_POINT`; D12). -/
inductive SubscribePoint where
  | afterResolve
  | afterHandshake
  | external
deriving DecidableEq, Repr

/-- The parameters of one instance that the spec leaves OPEN and a model takes as arguments (R8, R31). They stand in
State so that every statement is about every value of them; no step writes them (log entry 7). -/
structure Params where
  /-- `PORT_LMAX`, the largest payload the request port can present, at least 255 (D18). -/
  portLmax : Nat
  /-- `RESOLVE_ORDER`, the order in which CONNECT resolves the five handles (D13). -/
  resolveOrder : List Endpoint
  /-- `SUBSCRIBE_POINT` (D12). -/
  subscribePoint : SubscribePoint
  /-- `ABORT_RELEASES_TRANSPORT`, whether a failed CONNECT calls the transport's `disconnect()` (D14). -/
  abortReleasesTransport : Bool
  /-- `WRITE_TIMEOUT`, used by no rule: the block has no timer (D25, R237). -/
  writeTimeout : Option Nat
  /-- `DEVICE_ADDR`, opaque, read only by the transport (D23, R31). -/
  deviceAddr : DeviceAddr
  /-- `TXPOWER_BYTES`, handshake string HS-T (R91, D20, U1). -/
  txpowerBytes : Bytes
  /-- `OP_CODE`: what each of the eight codes of the 3-bit `op` field names, code 0 first (R95, D2). -/
  opCodes : List OpName
  /-- `RESULT_CODE` (R191, D3). -/
  resultCodes : ResultCodes
deriving DecidableEq, Repr

namespace Config

/-- `START_BYTE`, frame byte 0 (R6). -/
def startByte : Byte := 0xFF
/-- `SYNC_BITS`, the fixed top six bits of frame byte 1 (R6). -/
def syncBits : Byte := 0xFC
/-- `FLAG_ANSWER`, option bit 0 of frame byte 1 (R6). -/
def flagAnswer : Byte := 0x01
/-- `FLAG_RESET_TIMEOUT`, option bit 1 of frame byte 1 (R6). -/
def flagResetTimeout : Byte := 0x02
/-- `LMAX`, the largest payload the encoder accepts (R6). -/
def lmax : Nat := 254
/-- `HEADER_LEN` (R6). -/
def headerLen : Nat := 6
/-- `FRAME_OVERHEAD` (R6). -/
def frameOverhead : Nat := 7
/-- `FRAME_MIN` (R7). -/
def frameMin : Nat := frameOverhead
/-- `FRAME_MAX` (R7). -/
def frameMax : Nat := frameOverhead + lmax
/-- `SEQ_RESET` (R6). -/
def seqReset : Byte := 0
/-- `DEFAULT_ANSWER` (R6). -/
def defaultAnswer : Bool := true
/-- `DEFAULT_RESET_TIMEOUT` (R6). -/
def defaultResetTimeout : Bool := true

/-- `ANTIDOS_TOKEN`, handshake string HS-A, "011i3" (R6, R90). -/
def antidosToken : Bytes := [0x30, 0x31, 0x31, 0x69, 0x33]
/-- The default of the parameter `TXPOWER_BYTES`, handshake string HS-T (R6, R91). UNVERIFIED, unsafe: the source itself
calls the value its own reading of an ambiguous literal (U1, R234); log entry 18. -/
def txpowerBytes : Bytes := [0x00, 0x07]
/-- `WAKECPU_BYTE`, handshake string HS-W (R6, R92). -/
def wakecpuByte : Bytes := [0x01]

/-- `UUID_PREFIX`, 8 hex digits (R6, R52). -/
def uuidStart : BitVec 32 := 0x22bb746f
/-- `UUID_SUFFIX`, 20 hex digits (R6, R52). -/
def uuidTail : BitVec 80 := 0x75542d6f726568705327

/-- The default `RESOLVE_ORDER` (R8, D13). -/
def resolveOrder : List Endpoint := [.antidos, .wakecpu, .txpower, .roll, .notify]

/-- The default `OP_CODE` (R95, D2). -/
def opCodes : List OpName :=
  [.connect, .cmd, .disconnect, .encode, .decode, .reserved5, .reserved6, .reserved7]

/-- The default `RESULT_CODE` (R191, D3). -/
def resultCodes : ResultCodes :=
  { ok := 0
    oversizedPayload := 1
    characteristicNotFound := 2
    handshakeFailed := 3
    transportError := 4
    sessionClosed := 5
    illegalOp := 6
    frameRejected := 7
    connectionLost := 0
    writeTimeout := 1
    notAcknowledged := 2
    tooShort := 0
    badStart := 1
    badSync := 2
    badLength := 3
    badChecksum := 4 }

/-- The spec's default of every open parameter (R8). The device address has none: 0 is a DESIGN CHOICE, unsafe in name
only because nothing reads it (log entry 7). -/
def defaults : Params :=
  { portLmax := 255
    resolveOrder := resolveOrder
    subscribePoint := .afterResolve
    abortReleasesTransport := false
    writeTimeout := none
    deviceAddr := 0
    txpowerBytes := txpowerBytes
    opCodes := opCodes
    resultCodes := resultCodes }

end Config

/-- The UUID fragment of an endpoint, four hex digits (R50, R52). -/
def Endpoint.fragment : Endpoint → BitVec 16
  | .antidos => 0x2bbd
  | .wakecpu => 0x2bbf
  | .txpower => 0x2bb2
  | .roll => 0x2ba1
  | .notify => 0x2ba6

/-- The full UUID: the hex digits of prefix, fragment and suffix, in that order (R52). -/
def Endpoint.uuid (k : Endpoint) : BitVec 128 := Config.uuidStart ++ k.fragment ++ Config.uuidTail

/-- The codes tell results apart, and the sub-codes of one result its kinds or reasons. -/
def ResultCodes.wf (c : ResultCodes) : Bool :=
  decide ([c.ok, c.oversizedPayload, c.characteristicNotFound, c.handshakeFailed, c.transportError, c.sessionClosed,
      c.illegalOp, c.frameRejected].Nodup)
    && decide ([c.connectionLost, c.writeTimeout, c.notAcknowledged].Nodup)
    && decide ([c.tooShort, c.badStart, c.badSync, c.badLength, c.badChecksum].Nodup)

/-- What the spec asks of the parameters: the port can present an oversized payload (R8: "so that the case is reachable"),
the resolve order is a permutation of the five endpoints (R53: "once per endpoint, five times in all"), HS-T has a byte
(R54: `len(v) ≥ 1`), each op code names one operation, and each result has a code of its own. -/
def Params.wf (p : Params) : Bool :=
  decide (255 ≤ p.portLmax) && p.resolveOrder.isPerm Config.resolveOrder && !p.txpowerBytes.isEmpty
    && p.opCodes.isPerm Config.opCodes && p.resultCodes.wf

end Sys2Proof
end

