-- ==== Sys2Proof/Machine/Flags.lean ====
section
/-! DEFINITION. The combinational datapath functions `Flags`, `Dlen`, `Chk`, `SeqNext`, `ChkOk`
(40_checksum_sequence.md). The block has no condition codes (10_state.md R26): its only "flags" are the two option bits
of frame byte 1. -/

namespace Sys2Proof.Machine

/-- `Flags(a, r)` (R120): the sync pattern with the answer flag at bit 0 and the reset-timeout flag at bit 1. -/
def flagsByte (a r : Bool) : Byte :=
  Config.syncBits ||| (if a then Config.flagAnswer else 0) ||| (if r then Config.flagResetTimeout else 0)

/-- `Dlen(L)` (R121): exact, never wrapping; `none` is `OversizedPayload`. -/
def dlen (len : Nat) : Option Byte :=
  if len ≤ Config.lmax then some (BitVec.ofNat 8 (len + 1)) else none

/-- `sum(s)`: the sum of the bytes as a natural number (R9). -/
def byteSum : Bytes → Nat
  | [] => 0
  | b :: bs => b.toNat + byteSum bs

/-- `Chk(did, cid, seq, dlen, payload)` (R122): the natural sum modulo 256, then complemented. -/
def chk (did cid seq len : Byte) (payload : Bytes) : Byte :=
  BitVec.ofNat 8 (255 - (byteSum payload + did.toNat + cid.toNat + seq.toNat + len.toNat) % 256)

/-- The checksum as an 8-bit accumulator over the summed bytes, carries discarded, then complemented (R123). -/
def chkAcc (summed : Bytes) : Byte := summed.foldl (fun acc b => acc + b) 0 ^^^ 0xFF

/-- `SeqNext(q)` (R125): plus one modulo 256, silently. -/
def seqNext (q : Byte) : Byte := q + 1

/-- `s[i]`, the byte at index `i` (R9); used only below the length. -/
def byteAt (s : Bytes) (i : Nat) : Byte := s.getD i 0

/-- `s[i:j]`, the bytes at indices `i` to `j - 1` (R9). -/
def slice (s : Bytes) (i j : Nat) : Bytes := (s.drop i).take (j - i)

/-- `ChkOk(F)` (R126): the checksum of bytes 2 to the last but one is the last byte. -/
def chkOk (f : Bytes) : Bool :=
  chk (byteAt f 2) (byteAt f 3) (byteAt f 4) (byteAt f 5) (slice f 6 (f.length - 1)) == byteAt f (f.length - 1)

end Sys2Proof.Machine
end

