-- ==== Sys2Proof/Syntax.lean ====
section
/-! DEFINITION. The operations, the event and the wire formats: one constructor for each row of spec/opcode_table.json
(30_encoding.md R80, R94, R95, R98, R99). -/

namespace Sys2Proof

/-- One row of the opcode table with its operands. Operands of requests stand in the order of R99. -/
inductive Instr where
  /-- `CONNECT`, op code 0 (R161). -/
  | connect
  /-- `CMD did, cid, payload, a, r`, op code 1 (R163). -/
  | cmd (did cid : Byte) (payload : Bytes) (a r : Bool)
  /-- `DISCONNECT`, op code 2 (R165). -/
  | disconnect
  /-- `ENCODE did, cid, payload, a, r, seq`, op code 3 (R140). -/
  | encode (did cid : Byte) (payload : Bytes) (a r : Bool) (seq : Byte)
  /-- `DECODE F`, op code 4 (R142). -/
  | decode (f : Bytes)
  /-- Reserved op code 5 (R97). -/
  | reserved5
  /-- Reserved op code 6 (R97). -/
  | reserved6
  /-- Reserved op code 7 (R97). -/
  | reserved7
  /-- `NOTIFY handle, data`, the event of the notification input (R172, R98). -/
  | notify (handle : Handle) (data : Bytes)
  /-- The wire format `FRAME` with the row's own fields (R81): the hand-over of one frame to `roll`. -/
  | frame (r a : Bool) (did cid seq dlen : Byte) (payload : Bytes) (chk : Byte)
  /-- The wire string `HS-A` (R90): the hand-over of the first handshake write, to `antidos`. -/
  | hsA
  /-- The wire string `HS-T` (R91): the hand-over of the second handshake write, to `txpower`. -/
  | hsT
  /-- The wire string `HS-W` (R92): the hand-over of the third handshake write, to `wakecpu`. -/
  | hsW
deriving DecidableEq, Repr

/-- The pseudo-form `cmd(did, cid, payload)` with the options left out (R100). -/
def Instr.cmdDefault (did cid : Byte) (payload : Bytes) : Instr :=
  .cmd did cid payload Config.defaultAnswer Config.defaultResetTimeout

/-- Where an instruction's words stand: the request port, the notification input, or the write to one endpoint (R95, R98,
R81, R50). -/
inductive Channel where
  | request
  | event
  | wire (k : Endpoint)
deriving DecidableEq, Repr

/-- The channel of an instruction: requests carry an op code, NOTIFY is an event, the wire strings are what the block
hands to the transport, each for its own endpoint (R95, R50). -/
def Instr.channel : Instr → Channel
  | .connect | .cmd .. | .disconnect | .encode .. | .decode .. => .request
  | .reserved5 | .reserved6 | .reserved7 => .request
  | .notify .. => .event
  | .frame .. => .wire .roll
  | .hsA => .wire .antidos
  | .hsT => .wire .txpower
  | .hsW => .wire .wakecpu

end Sys2Proof
end

