-- ==== Sys2Proof/WellFormed.lean ====
section
/-! DEFINITION. What the spec asks of an instruction's operands before it can stand at its port or on the wire
(30_encoding.md R81, R86, R88, R94, R97). -/

namespace Sys2Proof

/-- Why an instruction is ill formed. -/
inductive IllFormed where
  /-- The request port cannot present a payload longer than `PORT_LMAX` (R94, R8). -/
  | beyondPort
  /-- A frame carries at most 254 payload bytes (R81, R97). -/
  | frameTooLong
  /-- Byte 5 of a frame is `L + 1` (R86). -/
  | wrongLength
  /-- The last byte of a frame is the checksum (R88). -/
  | wrongChecksum
deriving DecidableEq, Repr

/-- The first check an instruction fails, for a port that can present `lmax` payload bytes. -/
def Instr.illFormed (lmax : Nat) : Instr → Option IllFormed
  | .cmd _ _ p _ _ => if p.length ≤ lmax then none else some .beyondPort
  | .encode _ _ p _ _ _ => if p.length ≤ lmax then none else some .beyondPort
  | .frame _ _ did cid seq len p c =>
    if ¬ p.length ≤ Config.lmax then some .frameTooLong
    else if len.toNat ≠ p.length + 1 then some .wrongLength
    else if c ≠ Machine.chk did cid seq len p then some .wrongChecksum
    else none
  | .connect | .disconnect | .decode _ => none
  | .reserved5 | .reserved6 | .reserved7 => none
  | .notify _ _ => none
  | .hsA | .hsT | .hsW => none

/-- Well formed: no check fails. -/
def Instr.wf (lmax : Nat) (i : Instr) : Bool := (i.illFormed lmax).isNone

end Sys2Proof
end

