-- ==== Sys2Proof/Decode.lean ====
section
/-! DEFINITION. Reading an instruction from the bytes of its channel, and the words of an instruction
(30_encoding.md R81 to R98). The wire formats are the spec's, bit by bit. For a request and an event the spec gives
fields, widths and order but no packed word (R94, R98): the byte layout used here is the model's own. DESIGN CHOICE,
safe: log entry 4. -/

namespace Sys2Proof

/-- Why bytes are no instruction of their channel. -/
inductive DecodeError where
  /-- An empty byte string has no op code and no start byte. -/
  | noOpCode
  /-- The parameter `OP_CODE` gives the code no name; a well-formed one names all eight (`Params.wf`). -/
  | unnamedOpCode
  /-- A field of the format is missing or its bytes run out. -/
  | truncated
  /-- A wire string that is not the handshake string of its endpoint, or not a frame's start byte (R82, R90 to R92, R97). -/
  | unknownWire
  /-- A wire string with the start byte and fewer than 7 bytes (R89). -/
  | shortFrame
  /-- Bits [7:2] of byte 1 are not the sync pattern (R83, R97). -/
  | badSync
deriving DecidableEq, Repr

/-! ### Fields -/

/-- A natural number, each leading byte 255 adding 255 and the first smaller byte ending it: every natural number has
one such byte string, so that a count "any natural number" (R94 `n`, R98 `m`) has no bound. -/
def natBytes (n : Nat) : Bytes := List.replicate (n / 255) 0xFF ++ [BitVec.ofNat 8 (n % 255)]

/-- Reads what `natBytes` writes. -/
def readNat : Bytes → Option (Nat × Bytes)
  | [] => none
  | b :: rest =>
    if b = 0xFF then
      match readNat rest with
      | some (n, after) => some (n + 255, after)
      | none => none
    else some (b.toNat, rest)

/-- A counted byte sequence: the count, then that many bytes (R94 `L, payload[0..L-1]`). -/
def countedBytes (s : Bytes) : Bytes := natBytes s.length ++ s

/-- Reads a counted byte sequence. -/
def readCounted (bs : Bytes) : Option (Bytes × Bytes) :=
  match readNat bs with
  | none => none
  | some (n, rest) => if n ≤ rest.length then some (rest.take n, rest.drop n) else none

/-- A one-bit field in a byte of its own, at bit 0. -/
def bitByte (b : Bool) : Byte := if b then 1 else 0

/-- What the op code in bits [2:0] of a byte names, as the table's mask has it (R95). -/
def Params.opAt (p : Params) (op : Byte) : Option OpName := p.opCodes[op.toNat % 8]?

/-- The byte with the op code of a name, its other bits clear. -/
def Params.opByte (p : Params) (name : OpName) : Byte := BitVec.ofNat 8 (p.opCodes.idxOf name)

/-! ### Reading -/

/-- The fields of a request's format, in the order of R94, after its op code. A format reads its own fields only; what follows
them is not looked at. -/
def decodeFields : OpName → Bytes → Except DecodeError Instr
  | .connect, _ => .ok .connect
  | .cmd, did :: cid :: a :: r :: rest =>
    match readCounted rest with
    | some (payload, _) => .ok (.cmd did cid payload (a.getLsbD 0) (r.getLsbD 0))
    | none => .error .truncated
  | .cmd, _ => .error .truncated
  | .disconnect, _ => .ok .disconnect
  | .encode, did :: cid :: a :: r :: seq :: rest =>
    match readCounted rest with
    | some (payload, _) => .ok (.encode did cid payload (a.getLsbD 0) (r.getLsbD 0) seq)
    | none => .error .truncated
  | .encode, _ => .error .truncated
  | .decode, fields =>
    match readCounted fields with
    | some (f, _) => .ok (.decode f)
    | none => .error .truncated
  | .reserved5, _ => .ok .reserved5
  | .reserved6, _ => .ok .reserved6
  | .reserved7, _ => .ok .reserved7

/-- A request: the op code, then the fields of the format it names (R94, R95). -/
def decodeRequest (p : Params) : Bytes → Except DecodeError Instr
  | [] => .error .noOpCode
  | op :: fields =>
    match p.opAt op with
    | some name => decodeFields name fields
    | none => .error .unnamedOpCode

/-- An event `EVT-N`: the handle, then the counted data (R98). -/
def decodeEvent (bs : Bytes) : Except DecodeError Instr :=
  match readNat bs with
  | none => .error .truncated
  | some (h, rest) =>
    match readCounted rest with
    | some (data, _) => .ok (.notify h data)
    | none => .error .truncated

/-- The fields of a frame at their positions (R81); the end of the write is the end of the frame (R89). Byte 5 and the
last byte are taken as they are: `Instr.wf` says whether they are right. -/
def decodeFrameFields : Bytes → Except DecodeError Instr
  | start :: flags :: did :: cid :: seq :: len :: last :: rest =>
    if start ≠ Config.startByte then .error .unknownWire
    else if flags &&& Config.syncBits ≠ Config.syncBits then .error .badSync
    else
      let tail := last :: rest
      .ok (.frame (flags.getLsbD 1) (flags.getLsbD 0) did cid seq len tail.dropLast (tail.getLastD 0))
  | start :: _ => if start ≠ Config.startByte then .error .unknownWire else .error .shortFrame
  | [] => .error .noOpCode

/-- A handshake string, which is the whole data of its write (R93), and what it is read as. -/
def decodeWhole (v : Bytes) (i : Instr) (bs : Bytes) : Except DecodeError Instr :=
  if bs = v then .ok i else .error .unknownWire

/-- The data of a write to an endpoint (R50): the handshake string of the endpoint, or a frame; `notify` is never
written. -/
def decodeWire (p : Params) : Endpoint → Bytes → Except DecodeError Instr
  | .antidos, bs => decodeWhole Config.antidosToken .hsA bs
  | .txpower, bs => decodeWhole p.txpowerBytes .hsT bs
  | .wakecpu, bs => decodeWhole Config.wakecpuByte .hsW bs
  | .roll, bs => decodeFrameFields bs
  | .notify, _ => .error .unknownWire

/-- The decoder, total on any bytes of any channel, under the parameters that name the op codes and the bytes of HS-T. -/
def decode (p : Params) : Channel → Bytes → Except DecodeError Instr
  | .request, bs => decodeRequest p bs
  | .event, bs => decodeEvent bs
  | .wire k, bs => decodeWire p k bs

/-! ### Writing -/

/-- Byte 1 of a frame from its bits, high to low: six sync bits, `r`, `a` (R81). -/
def flagsField (r a : Bool) : Byte := (Config.syncBits.extractLsb' 2 6 ++ BitVec.ofBool r) ++ BitVec.ofBool a

/-- The bytes of an instruction on its channel. -/
def encode (p : Params) : Instr → Bytes
  | .connect => [p.opByte .connect]
  | .cmd did cid payload a r => [p.opByte .cmd, did, cid, bitByte a, bitByte r] ++ countedBytes payload
  | .disconnect => [p.opByte .disconnect]
  | .encode did cid payload a r seq =>
    [p.opByte .encode, did, cid, bitByte a, bitByte r, seq] ++ countedBytes payload
  | .decode f => [p.opByte .decode] ++ countedBytes f
  | .reserved5 => [p.opByte .reserved5]
  | .reserved6 => [p.opByte .reserved6]
  | .reserved7 => [p.opByte .reserved7]
  | .notify h data => natBytes h ++ countedBytes data
  | .frame r a did cid seq len payload c =>
    [Config.startByte, flagsField r a, did, cid, seq, len] ++ payload ++ [c]
  | .hsA => Config.antidosToken
  | .hsT => p.txpowerBytes
  | .hsW => Config.wakecpuByte

/-! ### The opcode table's words -/

/-- `count` bytes of the number `w`, the most significant first: the table gives a row of several bytes as ONE number
with byte 0 in its high half ("match_mask_scope"). -/
def wordBytes : Nat → Nat → Bytes
  | 0, _ => []
  | count + 1, w => wordBytes count (w / 256) ++ [BitVec.ofNat 8 w]

/-- The channel and the bytes of a table row's word. A row of one byte is a request (operand bytes of zeros follow),
a longer one a wire string: with the start byte the frame's, of five bytes HS-A's, otherwise HS-T's. Of the wire strings only
the frame has bits beyond its row's, zeros up to the shortest frame. The one-byte row HS-W has the same word as CMD and is
read as CMD: log entry 17. -/
def tableTransfer (nbits w : Nat) : Channel × Bytes :=
  let bs := wordBytes ((nbits + 7) / 8) w
  if nbits ≤ 8 then (.request, bs ++ List.replicate 7 0)
  else if bs.headD 0 = Config.startByte then (.wire .roll, bs ++ List.replicate (Config.frameMin - bs.length) 0)
  else if bs.length = Config.antidosToken.length then (.wire .antidos, bs)
  else (.wire .txpower, bs)

/-- The instruction the decoder reads from a word of the opcode table, under the spec's default parameters. -/
def decodeTableWord (nbits w : Nat) : Option Instr :=
  match decode Config.defaults (tableTransfer nbits w).1 (tableTransfer nbits w).2 with
  | .ok i => some i
  | .error _ => none

end Sys2Proof
end

