-- ==== Sys2Proof/Machine/Operands.lean ====
section
/-! DEFINITION. Operand assembly (30_encoding.md R96) and the two pure functions of 41_encode_decode.md: forming a frame
from operands (R140) and taking the operands back out of a byte string (R142). -/

namespace Sys2Proof.Machine

/-- The operand tuple a frame carries (R140, R142). -/
structure FrameOperands where
  did : Byte
  cid : Byte
  payload : Bytes
  a : Bool
  r : Bool
  seq : Byte
deriving DecidableEq, Repr

/-- The reasons of `FrameRejected`, in the order of the checks (R142, R198). -/
inductive RejectReason where
  | tooShort
  | badStart
  | badSync
  | badLength
  | badChecksum
deriving DecidableEq, Repr

/-- What DECODE's function gives: the operands or the first failing check (R142). -/
inductive Decoded where
  | accepted (x : FrameOperands)
  | rejected (reason : RejectReason)
deriving DecidableEq, Repr

/-- The function of ENCODE (R140): `none` is `OversizedPayload`, decided before anything is formed. -/
def encodeFrame (x : FrameOperands) : Option Bytes :=
  match dlen x.payload.length with
  | none => none
  | some len =>
    some ([Config.startByte, flagsByte x.a x.r, x.did, x.cid, x.seq, len] ++ x.payload
      ++ [chk x.did x.cid x.seq len x.payload])

/-- The function of DECODE (R142): the five checks in the spec's order, then the fields at their positions. -/
def decodeFrame (f : Bytes) : Decoded :=
  if f.length < Config.frameMin then .rejected .tooShort
  else if byteAt f 0 ≠ Config.startByte then .rejected .badStart
  else if byteAt f 1 &&& Config.syncBits ≠ Config.syncBits then .rejected .badSync
  else if (byteAt f 5).toNat ≠ f.length - Config.headerLen then .rejected .badLength
  else if !chkOk f then .rejected .badChecksum
  else .accepted
    { did := byteAt f 2
      cid := byteAt f 3
      payload := slice f 6 (f.length - 1)
      a := (byteAt f 1).getLsbD 0
      r := (byteAt f 1).getLsbD 1
      seq := byteAt f 4 }

/-- Whether a byte string is a frame the encoder can emit (R143: exactly those DECODE accepts). As far as the source goes it
is a necessary condition for the device to act on the string, and never a sufficient one (R144). -/
def isFrame (f : Bytes) : Bool :=
  match decodeFrame f with
  | .accepted _ => true
  | .rejected _ => false

end Sys2Proof.Machine
end

