-- ==== Sys2Proof/Machine/State.lean ====
section
/-! DEFINITION. The state of the block (10_state.md R22 to R25, R29, R30), of its ports (00_scope.md R10 to R12) and of
its instance's parameters (R8, R31); the results an operation can have (60_exceptions.md R190); why a step can stop. -/

namespace Sys2Proof.Machine

/-- `SESSION` (R22). -/
inductive Session where
  | idle
  | handshaking
  | ready
  | closed
deriving DecidableEq, Repr

/-- The five characteristic handles; `none` is `NONE`, unresolved (R24). -/
structure Handles where
  antidos : Option Handle
  wakecpu : Option Handle
  txpower : Option Handle
  roll : Option Handle
  notify : Option Handle
deriving DecidableEq, Repr

/-- The three handshake strings, in the order of the writes (R161 lines 4 to 6). -/
inductive HandshakeString where
  | hsA
  | hsT
  | hsW
deriving DecidableEq, Repr

/-- What the block holds of an operation in progress: which operation, and for CONNECT which of its steps (R25). -/
inductive Suspended where
  /-- CONNECT, line 2: `Resolve` of `k` is outstanding and `later` are still to be resolved. -/
  | resolving (k : Endpoint) (later : List Endpoint)
  /-- CONNECT, lines 4 to 6: the write of this handshake string is staged or outstanding. -/
  | handshake (w : HandshakeString)
  /-- CMD, line 4: the write of the frame is staged or outstanding. -/
  | command
deriving DecidableEq, Repr

/-- The kinds of the transport's write error (R54, R190). -/
inductive ErrKind where
  | connectionLost
  | writeTimeout
  | notAcknowledged
deriving DecidableEq, Repr

/-- The transport's answer to `Resolve` (R53). -/
inductive ResolveAnswer where
  | handle (h : Handle)
  | notFound
deriving DecidableEq, Repr

/-- The transport's answer to `CharWrite` (R54). -/
inductive WriteAnswer where
  | ok
  | err (kind : ErrKind)
deriving DecidableEq, Repr

/-- The result of an operation, given to the caller on the result port (R190). -/
inductive Result where
  /-- `Ok` without a value. -/
  | ok
  /-- `Ok(F)` of ENCODE. -/
  | frame (f : Bytes)
  /-- `Ok(operands)` of DECODE. -/
  | operands (x : FrameOperands)
  | oversizedPayload
  | characteristicNotFound
  | handshakeFailed
  | transportError (kind : ErrKind)
  | sessionClosed
  | illegalOp
  | frameRejected (reason : RejectReason)
deriving DecidableEq, Repr

/-- What the other agents do next (R11, R12): the free inputs of the model. -/
inductive Input where
  /-- The caller presents a request, as its bytes (R94). -/
  | request (bs : Bytes)
  /-- The transport presents a notification event, as its bytes (R98). -/
  | event (bs : Bytes)
  /-- The transport answers the outstanding `Resolve` (R53). -/
  | resolved (answer : ResolveAnswer)
  /-- The transport answers the outstanding `CharWrite` (R54). -/
  | written (answer : WriteAnswer)
  /-- The instance is created afresh (R221). -/
  | reset
deriving DecidableEq, Repr

/-- What the block presents at its output ports (R10). -/
inductive Output where
  /-- The transport call `Resolve(frag)` (R53). -/
  | resolve (fragment : BitVec 16)
  /-- The transport call `Subscribe(h)` (R55). -/
  | subscribe (h : Handle)
  /-- The transport call `CharWrite(h, v, ack)` (R54). -/
  | write (h : Handle) (v : Bytes) (ack : Bool)
  /-- The transport call `Release()` (R56). -/
  | release
  /-- `Deliver(h, d)` on the notification output (R172). -/
  | deliver (h : Handle) (d : Bytes)
  /-- A result on the result port (R10). -/
  | result (r : Result)
deriving DecidableEq, Repr

/-- The machine: the block, its ports and its parameters. -/
structure State where
  /-- `SESSION` (R22). -/
  session : Session
  /-- `SEQ` (R23). -/
  seq : Byte
  /-- `HANDLE[k]` (R24). -/
  handles : Handles
  /-- `BUSY` (R25). -/
  busy : Bool
  /-- The operation in progress and its step (R25). -/
  suspended : Option Suspended
  /-- The frame buffer: the wire string formed and not yet handed over (R29, R61); log entry 1. -/
  frameBuf : Option Bytes
  /-- The request port: the requests presented and not yet accepted, oldest first (R224); log entry 2. -/
  port : List Bytes
  /-- What the caller and the transport do next, in order (R11, R12); log entry 2. -/
  inputs : List Input
  /-- Draws of the environment: where a request can be accepted and a notification is the next input, whether the
  notification goes first, either order being allowed (R200); log entry 2. -/
  turns : List Bool
  /-- What the block has presented, newest first; log entry 3. -/
  trace : List Output
  /-- The parameters of the instance (R8, R31); log entry 7. -/
  params : Params
deriving DecidableEq, Repr

/-- Why a step stops with a fault. -/
inductive Fault where
  /-- Raised by the handling of an answer when no call of its type is outstanding: the transport has broken the boundary's
  contract, one answer of the call's type to each call (R12, R53, R54). Safe: the spec gives such an answer no meaning. -/
  | unsolicitedAnswer
  /-- Raised by a write or a subscription through a handle that is NONE. No state the machine reaches with well-formed
  parameters has one (R54: "a handle obtained from `Resolve`"). Safe. -/
  | unresolvedHandle
deriving DecidableEq, Repr

/-- Why a step refuses. -/
inductive Refusal where
  /-- Raised by exec's arm of an instruction that has no meaning yet. Safe. -/
  | notModelled (mnemonic : String)
  /-- Raised by the step when a port holds bytes that are no instruction of their channel (R94, R98). Safe. -/
  | undecodable (why : DecodeError)
  /-- Raised by FRAME, HS-A, HS-T and HS-W when that string is not the one the block has staged, and by the step when a string
  is staged for no operation that writes: the block hands a string over only at its place in CONNECT or CMD (R101, R222).
  Safe. -/
  | wireOutOfPlace
  /-- Raised by the step when a reset arrives while BUSY is set, to which the spec gives no meaning (R221, U9). Safe. -/
  | resetWhileBusy
deriving DecidableEq, Repr

/-- No handle resolved (R30). -/
def Handles.unresolved : Handles :=
  { antidos := Option.none, wakecpu := Option.none, txpower := Option.none, roll := Option.none, notify := Option.none }

/-- The state after reset, that is of a fresh instance (R30, R220): nothing presented, nothing in progress. -/
def State.reset : State :=
  { session := .idle
    seq := Config.seqReset
    handles := Handles.unresolved
    busy := false
    suspended := none
    frameBuf := none
    port := []
    inputs := []
    turns := []
    trace := []
    params := Config.defaults }

end Sys2Proof.Machine
end

