-- ==== Sys2Proof/Machine/Ops.lean ====
section
/-! DEFINITION. The named operations the meanings are built from: handles, the transport calls, the staging of a wire
string, the ending of an operation with a result (what stands here for taking an exception, 60_exceptions.md R201), and
the waiting of a request at the port (70_reset_and_hazards.md R224). -/

namespace Sys2Proof.Machine

/-- The outcome of one step of this machine. -/
abbrev Outcome := Host.Outcome State Fault Refusal

/-! ### Handles (R24) -/

/-- `HANDLE[k]`, read. -/
def Handles.get (hs : Handles) : Endpoint → Option Handle
  | .antidos => hs.antidos
  | .wakecpu => hs.wakecpu
  | .txpower => hs.txpower
  | .roll => hs.roll
  | .notify => hs.notify

/-- `HANDLE[k] <- h`. -/
def Handles.set (hs : Handles) (k : Endpoint) (h : Handle) : Handles :=
  match k with
  | .antidos => { hs with antidos := some h }
  | .wakecpu => { hs with wakecpu := some h }
  | .txpower => { hs with txpower := some h }
  | .roll => { hs with roll := some h }
  | .notify => { hs with notify := some h }

/-- `HANDLE[k] <- h` in the state. -/
def State.setHandle (s : State) (k : Endpoint) (h : Handle) : State := { s with handles := s.handles.set k h }

/-! ### Output ports (R10) -/

/-- Presents `o` at an output port. -/
def State.emit (s : State) (o : Output) : State := { s with trace := o :: s.trace }

/-- Gives result `r` to the caller: the whole effect of an operation that writes no state (R140, R142, R196, R197). -/
def State.reply (s : State) (r : Result) : State := s.emit (.result r)

/-- Ends the operation in progress with result `r`, success or error alike: BUSY is clear and the result is on the result
port (R163 `BUSY <- clear ; raise`, R199, R201: "Nothing is saved ... The error value goes to the caller"). -/
def State.finish (s : State) (r : Result) : State := { s with busy := false, suspended := none }.reply r

/-- All handles to `NONE` and `SESSION <- CLOSED` (R161 Abort, R165 line 2). -/
def State.close (s : State) : State := { s with handles := Handles.unresolved, session := .closed }

/-- `Abort(E)` of CONNECT (R161): the session closes, the transport is released only where the parameter says so (D14),
and the operation ends with `E`. -/
def State.abort (s : State) (r : Result) : State :=
  let s' := { s.close with busy := false, suspended := none }
  if s.params.abortReleasesTransport then (s'.emit .release).reply r else s'.reply r

/-! ### Acceptance (R160, R206, R224) -/

/-- Whether the request port accepts: BUSY is clear, and the session is not HANDSHAKING, which in every state the machine
reaches implies that BUSY is set (R160); where it is not, the request waits all the same (R206, column HANDSHAKING). -/
def State.accepts (s : State) : Bool := !s.busy && s.session ≠ .handshaking

/-- The request waits at the port (R224). -/
def State.wait (s : State) (i : Instr) : State := { s with port := s.port ++ [encode s.params i] }

/-! ### The transport calls (R53 to R56) -/

/-- `Resolve(frag[k])`: the call goes out and CONNECT is suspended on its answer (R53, R161 line 2). -/
def State.callResolve (s : State) (k : Endpoint) (later : List Endpoint) : State :=
  { s with suspended := some (.resolving k later) }.emit (.resolve k.fragment)

/-- `Subscribe(HANDLE[notify])` (R55, R161 line 3). -/
def State.subscribe (s : State) : Outcome :=
  match s.handles.notify with
  | some h => .next (s.emit (.subscribe h))
  | none => .fault .unresolvedHandle

/-- The string `v` is formed and is the next thing the block hands over; `at` is where the operation will be suspended. -/
def State.stage (s : State) (point : Suspended) (v : Bytes) : State :=
  { s with suspended := some point, frameBuf := some v }

/-- Whether the wire string `v` is the one staged for the operation suspended at `point`. -/
def State.staged (s : State) (point : Suspended) (v : Bytes) : Bool :=
  s.busy && s.suspended == some point && s.frameBuf == some v

/-- `CharWrite(HANDLE[k], v, true)`: the staged string goes to the transport as one acknowledged write and the operation
stays suspended until the answer (R54, R61). A string that is not the staged one has no place here. -/
def State.charWrite (s : State) (point : Suspended) (k : Endpoint) (v : Bytes) : Outcome :=
  if s.staged point v then
    match s.handles.get k with
    | some h => .next ({ s with frameBuf := none }.emit (.write h v true))
    | none => .fault .unresolvedHandle
  else .refused .wireOutOfPlace

/-! ### The handshake strings (R161 lines 4 to 6) -/

/-- The bytes of a handshake string (R90 to R92), those of HS-T a parameter (D20). -/
def HandshakeString.bytes (p : Params) : HandshakeString → Bytes
  | .hsA => Config.antidosToken
  | .hsT => p.txpowerBytes
  | .hsW => Config.wakecpuByte

/-- The endpoint a handshake string is written to (R50, R161). -/
def HandshakeString.endpoint : HandshakeString → Endpoint
  | .hsA => .antidos
  | .hsT => .txpower
  | .hsW => .wakecpu

/-- The instruction that hands a handshake string over. -/
def HandshakeString.instr : HandshakeString → Instr
  | .hsA => .hsA
  | .hsT => .hsT
  | .hsW => .hsW

/-- Stages a handshake string. -/
def State.stageHandshake (s : State) (w : HandshakeString) : State := s.stage (.handshake w) (w.bytes s.params)

/-- The endpoint the operation in progress writes to: that of its handshake string, `roll` for CMD (R50). -/
def State.writePort (s : State) : Option Endpoint :=
  match s.suspended with
  | some (.handshake w) => some w.endpoint
  | some .command => some .roll
  | some (.resolving _ _) | none => none

/-! ### Results as numbers (R191), sessions as numbers (R22) -/

/-- The sub-code of a transport error (R191). -/
def ErrKind.code (c : ResultCodes) : ErrKind → Nat
  | .connectionLost => c.connectionLost
  | .writeTimeout => c.writeTimeout
  | .notAcknowledged => c.notAcknowledged

/-- The sub-code of a rejection (R191). -/
def RejectReason.code (c : ResultCodes) : RejectReason → Nat
  | .tooShort => c.tooShort
  | .badStart => c.badStart
  | .badSync => c.badSync
  | .badLength => c.badLength
  | .badChecksum => c.badChecksum

/-- The result code and its sub-code under the parameter `RESULT_CODE` (R191); no rule depends on the numbers. -/
def Result.code (c : ResultCodes) : Result → Nat × Option Nat
  | .ok | .frame _ | .operands _ => (c.ok, none)
  | .oversizedPayload => (c.oversizedPayload, none)
  | .characteristicNotFound => (c.characteristicNotFound, none)
  | .handshakeFailed => (c.handshakeFailed, none)
  | .transportError k => (c.transportError, some (k.code c))
  | .sessionClosed => (c.sessionClosed, none)
  | .illegalOp => (c.illegalOp, none)
  | .frameRejected reason => (c.frameRejected, some (reason.code c))

/-- The 2-bit encoding that may be used for `SESSION` (R22); no rule depends on it. -/
def Session.code : Session → BitVec 2
  | .idle => 0
  | .handshaking => 1
  | .ready => 2
  | .closed => 3

end Sys2Proof.Machine
end

