-- ==== Sys2Proof/Machine/Event.lean ====
section
/-! DEFINITION. The event NOTIFY (42_session_ops.md R172; 60_exceptions.md R203, R204). -/

namespace Sys2Proof.Machine

/-- NOTIFY (R172): delivered unchanged in HANDSHAKING and READY, dropped in IDLE and CLOSED; taken whether or not BUSY is
set, and no state is written. -/
def execNotify (h : Handle) (data : Bytes) (s : State) : Outcome :=
  match s.session with
  | .handshaking | .ready => .next (s.emit (.deliver h data))
  | .idle | .closed => .next s

end Sys2Proof.Machine
end

