-- ==== Sys2Proof/Machine/Pure.lean ====
section
/-! DEFINITION. The pure operations ENCODE and DECODE (41_encode_decode.md R140, R142, R146). -/

namespace Sys2Proof.Machine

/-- What ENCODE gives the caller (R140, R192). -/
def encodeResult (x : FrameOperands) : Result :=
  match encodeFrame x with
  | some f => .frame f
  | none => .oversizedPayload

/-- What DECODE gives the caller (R142, R198). -/
def decodeResult (f : Bytes) : Result :=
  match decodeFrame f with
  | .accepted x => .operands x
  | .rejected reason => .frameRejected reason

/-- ENCODE (R140): no state is read or written; served in every session state (R146), waiting while BUSY. -/
def execEncode (did cid : Byte) (payload : Bytes) (a r : Bool) (seq : Byte) (s : State) : Outcome :=
  if s.accepts then .next (s.reply (encodeResult { did, cid, payload, a, r, seq }))
  else .next (s.wait (.encode did cid payload a r seq))

/-- DECODE (R142): no state is read or written; served in every session state (R146), waiting while BUSY. -/
def execDecode (f : Bytes) (s : State) : Outcome :=
  if s.accepts then .next (s.reply (decodeResult f)) else .next (s.wait (.decode f))

end Sys2Proof.Machine
end

