-- ==== Sys2Proof/Machine/Reserved.lean ====
section
/-! DEFINITION. The reserved op codes 5, 6 and 7: result `IllegalOp`, no state change (30_encoding.md R97; 60_exceptions.md
R197). -/

namespace Sys2Proof.Machine

/-- The shared effect of a reserved op code; like every request it waits while BUSY (R224). -/
def State.reservedOp (s : State) (i : Instr) : Outcome :=
  if s.accepts then .next (s.reply .illegalOp) else .next (s.wait i)

/-- Reserved op code 5 (R97). -/
def execReserved5 (s : State) : Outcome := s.reservedOp .reserved5

/-- Reserved op code 6 (R97). -/
def execReserved6 (s : State) : Outcome := s.reservedOp .reserved6

/-- Reserved op code 7 (R97). -/
def execReserved7 (s : State) : Outcome := s.reservedOp .reserved7

end Sys2Proof.Machine
end

