-- ==== Sys2Proof/Machine/Transport.lean ====
section
/-! DEFINITION. How a suspended operation goes on: the lines of CONNECT between its suspensions and the ends of CONNECT
and CMD (42_session_ops.md R161, R162, R163 line 4). -/

namespace Sys2Proof.Machine

/-- All five handles are resolved: line 3 of CONNECT, at this point unless the parameter moves it (D12), and then the
first handshake string (R161). -/
def State.resolvedAll (s : State) : Outcome :=
  match s.params.subscribePoint with
  | .afterResolve =>
    match s.subscribe with
    | .next s' => .next (s'.stageHandshake .hsA)
    | .fault e => .fault e
    | .refused e => .refused e
  | .afterHandshake | .external => .next (s.stageHandshake .hsA)

/-- Line 2 of CONNECT: resolve the next endpoint, or go on when none is left (R161). -/
def State.resolveNext (s : State) : List Endpoint → Outcome
  | k :: later => .next (s.callResolve k later)
  | [] => s.resolvedAll

/-- Line 7 of CONNECT: the third handshake write was acknowledged (R161, R173). -/
def State.handshakeDone (s : State) : Outcome :=
  let s' := { s with session := .ready }
  match s.params.subscribePoint with
  | .afterHandshake =>
    match s'.subscribe with
    | .next t => .next (t.finish .ok)
    | .fault e => .fault e
    | .refused e => .refused e
  | .afterResolve | .external => .next (s'.finish .ok)

/-- After handshake string `w` was acknowledged: the next string, or the end of CONNECT (R161 lines 4 to 7). -/
def State.handshakeNext (s : State) : HandshakeString → Outcome
  | .hsA => .next (s.stageHandshake .hsT)
  | .hsT => .next (s.stageHandshake .hsW)
  | .hsW => s.handshakeDone

/-- The operation the outstanding call belongs to: none while nothing is in progress or its string is still staged. -/
def State.awaiting (s : State) : Option Suspended :=
  if s.busy && s.frameBuf.isNone then s.suspended else none

/-- The transport answers the outstanding `Resolve` (R53, R161 line 2, R193). -/
def State.onResolved (s : State) (answer : ResolveAnswer) : Outcome :=
  match s.awaiting with
  | some (.resolving k later) =>
    match answer with
    | .handle h => (s.setHandle k h).resolveNext later
    | .notFound => .next (s.abort .characteristicNotFound)
  | some (.handshake _) | some .command | none => .fault .unsolicitedAnswer

/-- The transport answers the outstanding `CharWrite`: of a handshake string (R161 lines 4 to 6, R194) or of a frame
(R163 line 4, R195). -/
def State.onWritten (s : State) (answer : WriteAnswer) : Outcome :=
  match s.awaiting with
  | some (.handshake w) =>
    match answer with
    | .ok => s.handshakeNext w
    | .err _ => .next (s.abort .handshakeFailed)
  | some .command =>
    match answer with
    | .ok => .next (s.finish .ok)
    | .err kind => .next (s.finish (.transportError kind))
  | some (.resolving _ _) | none => .fault .unsolicitedAnswer

end Sys2Proof.Machine
end

