-- ==== Sys2Proof/Machine/SessionOps.lean ====
section
/-! DEFINITION. The session operations CONNECT, CMD and DISCONNECT (42_session_ops.md R160 to R165). Each meaning is the
operation's first atomic step, from acceptance to its first suspension; Machine/Transport.lean holds the later ones. -/

namespace Sys2Proof.Machine

/-- CONNECT (R161): line 1, and line 2 up to the first `Resolve`. -/
def execConnect (s : State) : Outcome :=
  if s.accepts then
    match s.session with
    | .closed => .next (s.reply .sessionClosed)
    | .ready => .next (s.reply .illegalOp)
    | .idle | .handshaking =>
      { s with busy := true, session := .handshaking, seq := Config.seqReset }.resolveNext s.params.resolveOrder
  else .next (s.wait .connect)

/-- CMD (R163): lines 1 to 3. The frame carries the value of `SEQ` read, the counter advances in the same step (R70), and
an oversized payload ends the operation with the counter advanced (R164, D5). -/
def execCmd (did cid : Byte) (payload : Bytes) (a r : Bool) (s : State) : Outcome :=
  if s.accepts then
    match s.session with
    | .closed => .next (s.reply .sessionClosed)
    | .idle => .next (s.reply .illegalOp)
    | .ready | .handshaking =>
      let s' := { s with busy := true, seq := seqNext s.seq }
      match encodeFrame { did, cid, payload, a, r, seq := s.seq } with
      | none => .next (s'.finish .oversizedPayload)
      | some f => .next (s'.stage .command f)
  else .next (s.wait (.cmd did cid payload a r))

/-- DISCONNECT (R165): one atomic step, no suspension. -/
def execDisconnect (s : State) : Outcome :=
  if s.accepts then
    match s.session with
    | .closed => .next (s.reply .sessionClosed)
    | .idle => .next (s.reply .illegalOp)
    | .ready | .handshaking => .next ((s.emit .release).close.reply .ok)
  else .next (s.wait .disconnect)

end Sys2Proof.Machine
end

