-- ==== Sys2Proof/Machine/Wire.lean ====
section
/-! DEFINITION. The wire formats FRAME, HS-A, HS-T, HS-W as what the block does with them: the hand-over of the staged
string to its characteristic as one acknowledged write (30_encoding.md R80 to R93, R101; 42_session_ops.md R161 lines 4
to 6, R163 line 4). How these rows come to be instructions: log entry 9. -/

namespace Sys2Proof.Machine

/-- FRAME: the write of line 4 of CMD, to `roll` (R163). The write port checks nothing (R228). -/
def execFrame (r a : Bool) (did cid seq len : Byte) (payload : Bytes) (c : Byte) (s : State) : Outcome :=
  s.charWrite .command .roll (encode s.params (.frame r a did cid seq len payload c))

/-- HS-A: the write of line 4 of CONNECT, to `antidos` (R161, R90). -/
def execHsA (s : State) : Outcome := s.charWrite (.handshake .hsA) .antidos Config.antidosToken

/-- HS-T: the write of line 5 of CONNECT, to `txpower` (R161, R91). -/
def execHsT (s : State) : Outcome := s.charWrite (.handshake .hsT) .txpower s.params.txpowerBytes

/-- HS-W: the write of line 6 of CONNECT, to `wakecpu` (R161, R92). -/
def execHsW (s : State) : Outcome := s.charWrite (.handshake .hsW) .wakecpu Config.wakecpuByte

end Sys2Proof.Machine
end

