-- ==== Sys2Proof/Machine/Dispatch.lean ====
section
/-! DEFINITION. One arm for each constructor of Instr. -/

namespace Sys2Proof.Machine

def exec (i : Instr) (s : State) : Host.Outcome State Fault Refusal :=
  match i with
  | .connect => Sys2Proof.Machine.execConnect s
  | .cmd did cid payload a r => Sys2Proof.Machine.execCmd did cid payload a r s
  | .disconnect => Sys2Proof.Machine.execDisconnect s
  | .encode did cid payload a r seq => Sys2Proof.Machine.execEncode did cid payload a r seq s
  | .decode f => Sys2Proof.Machine.execDecode f s
  | .reserved5 => Sys2Proof.Machine.execReserved5 s
  | .reserved6 => Sys2Proof.Machine.execReserved6 s
  | .reserved7 => Sys2Proof.Machine.execReserved7 s
  | .notify h data => Sys2Proof.Machine.execNotify h data s
  | .frame r a did cid seq len payload c => Sys2Proof.Machine.execFrame r a did cid seq len payload c s
  | .hsA => Sys2Proof.Machine.execHsA s
  | .hsT => Sys2Proof.Machine.execHsT s
  | .hsW => Sys2Proof.Machine.execHsW s

end Sys2Proof.Machine
end

