-- ==== Sys2Proof/Machine/Fetch.lean ====
section
/-! DEFINITION. Where the next instruction comes from: the staged wire string, the request port, the notification input
(00_scope.md R11, R12; 42_session_ops.md R160, R172; 70_reset_and_hazards.md R221, R224); and how a word of the opcode
table is placed there. -/

namespace Sys2Proof.Machine

/-- Runs the instruction that the bytes `bs` of channel `c` are; bytes that are none are refused by name. -/
def State.runWord (s : State) (c : Channel) (bs : Bytes) : Outcome :=
  match decode s.params c bs with
  | .ok i => exec i s
  | .error why => .refused (.undecodable why)

/-- Reset: a fresh instance with the same parameters (R220, R221). What the other agents do next is theirs and stands.
While BUSY is set it has no meaning (U9). -/
def State.onReset (s : State) : Outcome :=
  if s.busy then .refused .resetWhileBusy
  else .next { State.reset with port := s.port, inputs := s.inputs, turns := s.turns, params := s.params }

/-- The next thing another agent does (R11, R12). With none left nothing happens: an idle block stays idle, and a
suspended operation stays suspended, which is the hang of R236. -/
def State.takeInput (s : State) : Outcome :=
  match s.inputs with
  | [] => .next s
  | .request bs :: rest => .next { s with inputs := rest, port := s.port ++ [bs] }
  | .event bs :: rest => { s with inputs := rest }.runWord .event bs
  | .resolved answer :: rest => { s with inputs := rest }.onResolved answer
  | .written answer :: rest => { s with inputs := rest }.onWritten answer
  | .reset :: rest => { s with inputs := rest }.onReset

/-- Whether a notification is the next thing another agent does. -/
def State.eventNext (s : State) : Bool :=
  match s.inputs with
  | .event _ :: _ => true
  | [] | .request _ :: _ | .resolved _ :: _ | .written _ :: _ | .reset :: _ => false

/-- Whether a notification goes before a request that could be accepted: either order is allowed (R200), and a draw
decides. -/
def State.eventFirst (s : State) : Bool := s.eventNext && s.turns.headD false

/-- The state with the draw used up, where there was a choice. -/
def State.drawn (s : State) : State := if s.eventNext then { s with turns := s.turns.tail } else s

/-- The request port's turn: an accepting block takes the oldest request, unless a notification goes first; otherwise the
other agents go on (R160, R200, R224). -/
def State.serve (s : State) : Outcome :=
  match s.port with
  | bs :: rest =>
    if s.accepts then
      if s.eventFirst then s.drawn.takeInput else { s.drawn with port := rest }.runWord .request bs
    else s.takeInput
  | [] => s.takeInput

/-! ### Placing a word for the next step (log entry 16) -/

/-- A handle for `k`: the one held, or 0 where none is. -/
def Handles.ensure (hs : Handles) (k : Endpoint) : Handles :=
  match hs.get k with
  | some _ => hs
  | none => hs.set k 0

/-- The operation of `point` is in progress in session `session`, with the wire string `bs` staged for `k`. -/
def State.placeWire (s : State) (session : Session) (point : Suspended) (k : Endpoint) (bs : Bytes) : State :=
  { s with session := session, busy := true, suspended := some point, frameBuf := some bs, handles := s.handles.ensure k }

/-- The state with the bytes `bs` of channel `c` where the next step takes its instruction from. A request: at the front of
the port, the block accepting. An event: next among the inputs. Where both could go first, the draw is for the one placed.
A wire string: staged, in the operation whose place it has. -/
def State.place (s : State) (c : Channel) (bs : Bytes) : State :=
  match c with
  | .request =>
    { s with
      port := bs :: s.port, busy := false, suspended := none, frameBuf := none
      turns := if s.eventNext then false :: s.turns else s.turns
      session := if s.session = .handshaking then .idle else s.session }
  | .event =>
    { s with
      inputs := .event bs :: s.inputs, frameBuf := none
      turns := if s.accepts && !s.port.isEmpty then true :: s.turns else s.turns }
  | .wire .antidos => s.placeWire .handshaking (.handshake .hsA) .antidos bs
  | .wire .txpower => s.placeWire .handshaking (.handshake .hsT) .txpower bs
  | .wire .wakecpu => s.placeWire .handshaking (.handshake .hsW) .wakecpu bs
  | .wire .roll | .wire .notify => s.placeWire .ready .command .roll bs

end Sys2Proof.Machine
end

