-- ==== Sys2Proof/Machine/Step.lean ====
section
/-! DEFINITION. One step of the machine (00_scope.md R12), and the placing of a table word for the next step. -/

namespace Sys2Proof.Machine

/-- One step. A staged wire string is handed over before anything else happens, so that forming and handing over are one
atomic step of R12 (log entry 1); otherwise the port is served. -/
def step (s : State) : Host.Outcome State Fault Refusal :=
  match s.frameBuf with
  | some bs =>
    match s.writePort with
    | some k => s.runWord (.wire k) bs
    | none => .refused .wireOutOfPlace
  | none => s.serve

/-- `s` with the table word `w` of `nbits` bits where the very next step takes its instruction from. -/
def State.withFetchWord (s : State) (nbits w : Nat) : State :=
  s.place (tableTransfer nbits w).1 (tableTransfer nbits w).2

end Sys2Proof.Machine
end

