-- ==== Sys2Proof/Laws/Decode.lean ====
section
/-! SUPPORT. Reading a field gives back what was written, whatever follows it. -/

namespace Sys2Proof

/-- A natural number is read back, and what follows it is left. -/
@[simp] theorem readNat_natBytes (n : Nat) (after : Bytes) : readNat (natBytes n ++ after) = some (n, after) := by
  have hlast : (BitVec.ofNat 8 (n % 255)).toNat = n % 255 := by
    have := Nat.mod_lt n (show 0 < 255 by decide)
    simp only [BitVec.toNat_ofNat]; omega
  have hne : BitVec.ofNat 8 (n % 255) ≠ 0xFF := by
    intro h
    have h' := congrArg BitVec.toNat h
    have := Nat.mod_lt n (show 0 < 255 by decide)
    rw [hlast] at h'
    simp at h'; omega
  have main : ∀ q, readNat (List.replicate q 0xFF ++ ([BitVec.ofNat 8 (n % 255)] ++ after))
      = some (n % 255 + 255 * q, after) := by
    intro q
    induction q with
    | zero =>
      rw [List.replicate_zero, List.nil_append, List.cons_append, List.nil_append, readNat, if_neg hne, hlast]
      rfl
    | succ q ih =>
      rw [List.replicate_succ, List.cons_append, readNat, if_pos rfl, ih]
      simp only [Option.some.injEq, Prod.mk.injEq, and_true]; omega
  rw [natBytes, List.append_assoc, main]
  simp only [Option.some.injEq, Prod.mk.injEq, and_true]; omega

/-- A counted byte sequence is read back, and what follows it is left. -/
@[simp] theorem readCounted_countedBytes (s after : Bytes) : readCounted (countedBytes s ++ after) = some (s, after) := by
  simp [readCounted, countedBytes, List.append_assoc]

/-- The same with nothing after it. -/
@[simp] theorem readCounted_countedBytes_nil (s : Bytes) : readCounted (countedBytes s) = some (s, []) := by
  have := readCounted_countedBytes s []
  rwa [List.append_nil] at this

/-- A one-bit field is read back. -/
@[simp] theorem bitByte_bit (b : Bool) : (bitByte b)[0] = b := by cases b <;> rfl

/-- The flags byte of R81 shows the sync pattern. -/
@[simp] theorem flagsField_sync (r a : Bool) : flagsField r a &&& Config.syncBits = Config.syncBits := by
  cases r <;> cases a <;> rfl

/-- The answer flag is at bit 0 (R81). -/
@[simp] theorem flagsField_answer (r a : Bool) : (flagsField r a)[0] = a := by cases r <;> cases a <;> rfl

/-- The reset-timeout flag is at bit 1 (R81). -/
@[simp] theorem flagsField_resetTimeout (r a : Bool) : (flagsField r a)[1] = r := by
  cases r <;> cases a <;> rfl

/-- The layout of R81 and the formula of R120 are the same byte. -/
theorem flagsField_eq_flagsByte (r a : Bool) : flagsField r a = Machine.flagsByte a r := by cases r <;> cases a <;> rfl

/-- Under well-formed parameters a byte with the op code of a name is read as that name. -/
theorem Params.opAt_opByte {p : Params} (hp : p.wf = true) (name : OpName) : p.opAt (p.opByte name) = some name := by
  simp only [Params.wf, Bool.and_eq_true, List.isPerm_iff] at hp
  have hperm := hp.1.2
  have hmem : name ∈ p.opCodes := hperm.mem_iff.2 (by cases name <;> simp [Config.opCodes])
  have hlen : p.opCodes.length = 8 := hperm.length_eq
  have hlt := List.idxOf_lt_length_of_mem hmem
  have hval : (BitVec.ofNat 8 (p.opCodes.idxOf name)).toNat % 8 = p.opCodes.idxOf name := by
    simp only [BitVec.toNat_ofNat]; omega
  rw [Params.opAt, Params.opByte, hval, List.getElem?_eq_getElem hlt, List.getElem_idxOf hlt]

/-- A request is its op code and the fields of the format it names. -/
theorem decodeRequest_cons {p : Params} {op : Byte} {name : OpName} (h : p.opAt op = some name) (fields : Bytes) :
    decodeRequest p (op :: fields) = decodeFields name fields := by
  rw [decodeRequest, h]

/-- The fields of a format are read as a request. -/
theorem channel_of_decodeFields {name : OpName} {fields : Bytes} {i : Instr} (h : decodeFields name fields = .ok i) :
    i.channel = .request := by
  unfold decodeFields at h
  repeat' split at h
  all_goals first | contradiction | (cases h; rfl)

/-- The request port gives requests only. -/
theorem channel_of_decodeRequest {p : Params} {bs : Bytes} {i : Instr} (h : decodeRequest p bs = .ok i) :
    i.channel = .request := by
  unfold decodeRequest at h
  split at h
  · cases h
  · split at h
    · exact channel_of_decodeFields h
    · cases h

/-- The notification input gives NOTIFY only. -/
theorem notify_of_decodeEvent {bs : Bytes} {i : Instr} (h : decodeEvent bs = .ok i) : ∃ k d, i = .notify k d := by
  unfold decodeEvent at h
  repeat' split at h
  all_goals first | contradiction | exact ⟨_, _, (Except.ok.inj h).symm⟩

/-- A write to an endpoint is read as the wire string of that endpoint only. -/
theorem channel_of_decodeWire {p : Params} {k : Endpoint} {bs : Bytes} {i : Instr} (h : decodeWire p k bs = .ok i) :
    i.channel = .wire k := by
  unfold decodeWire decodeWhole decodeFrameFields at h
  repeat' split at h
  all_goals first | contradiction | (cases h; rfl)

end Sys2Proof
end

