-- ==== Sys2Proof/Laws/PerInstr.lean ====
section
/-! SUPPORT. Statements about every instruction as a piece of text, one lemma for each constructor of Instr. -/

namespace Sys2Proof.Laws.RoundTrip

/-- Under well-formed parameters the decoder of the instruction's channel reads the instruction back from its bytes; on the
self-delimiting channels (request, event) whatever follows them, in the write to an endpoint the bytes alone, since the end
of the write is the end of the string (R89, R93). -/
def Statement (i : Instr) : Prop :=
  ∀ (p : Params) (after : Bytes), p.wf = true → ((∃ k, i.channel = .wire k) → after = []) →
    decode p i.channel (encode p i ++ after) = .ok i

/-- A request is read back where its fields are. -/
theorem request {i : Instr} {name : OpName} {fields : Bytes} (hc : i.channel = .request)
    (he : ∀ p, Sys2Proof.encode p i = p.opByte name :: fields)
    (hd : ∀ after, decodeFields name (fields ++ after) = .ok i) : Statement i := by
  intro p after hp _
  rw [hc, he]
  exact (decodeRequest_cons (Params.opAt_opByte hp name) _).trans (hd after)

theorem connect : Statement .connect := request (fields := []) rfl (fun _ => rfl) fun _ => rfl

theorem cmd (did cid : Byte) (payload : Bytes) (a r : Bool) : Statement (.cmd did cid payload a r) :=
  request rfl (fun _ => rfl) (by simp [decodeFields])

theorem disconnect : Statement .disconnect := request (fields := []) rfl (fun _ => rfl) fun _ => rfl

theorem encode (did cid : Byte) (payload : Bytes) (a r : Bool) (seq : Byte) :
    Statement (.encode did cid payload a r seq) :=
  request rfl (fun _ => rfl) (by simp [decodeFields])

theorem decode (f : Bytes) : Statement (.decode f) :=
  request rfl (fun _ => rfl) (by simp [decodeFields])

theorem reserved5 : Statement .reserved5 := request (fields := []) rfl (fun _ => rfl) fun _ => rfl

theorem reserved6 : Statement .reserved6 := request (fields := []) rfl (fun _ => rfl) fun _ => rfl

theorem reserved7 : Statement .reserved7 := request (fields := []) rfl (fun _ => rfl) fun _ => rfl

theorem notify (h : Handle) (data : Bytes) : Statement (.notify h data) := by
  intro p after _ _
  simp [Sys2Proof.encode, Sys2Proof.decode, Instr.channel, decodeEvent, List.append_assoc]

theorem frame (r a : Bool) (did cid seq len : Byte) (payload : Bytes) (c : Byte) :
    Statement (.frame r a did cid seq len payload c) := by
  intro p after _ h
  obtain rfl := h ⟨_, rfl⟩
  cases payload with
  | nil =>
    simp [Sys2Proof.encode, Sys2Proof.decode, Instr.channel, decodeWire, decodeFrameFields]
  | cons b bs =>
    have hdrop : (b :: (bs ++ [c])).dropLast = b :: bs := List.dropLast_concat (l₁ := b :: bs)
    have hlast : (b :: (bs ++ [c])).getLastD 0 = c := List.getLastD_concat (l := b :: bs)
    simp only [Sys2Proof.encode, Sys2Proof.decode, Instr.channel, decodeWire, List.append_nil, List.cons_append,
      List.nil_append, decodeFrameFields, hdrop, hlast, flagsField_sync]
    simp

/-- A handshake string is read back whole (R93). -/
theorem whole {i : Instr} {k : Endpoint} (hc : i.channel = .wire k)
    (hd : ∀ p bs, decodeWire p k bs = decodeWhole (Sys2Proof.encode p i) i bs) : Statement i := by
  intro p after _ h
  obtain rfl := h ⟨_, hc⟩
  rw [hc, List.append_nil]
  exact (hd p _).trans (if_pos rfl)

theorem hsA : Statement .hsA := whole rfl fun _ _ => rfl

theorem hsT : Statement .hsT := whole rfl fun _ _ => rfl

theorem hsW : Statement .hsW := whole rfl fun _ _ => rfl

end Sys2Proof.Laws.RoundTrip
end

