-- ==== Sys2Proof/Safety.lean ====
section
/-! DEFINITION. What claims are stated in: the views of the output trace, quiescence, the invariant of the machine
(10_state.md R22 to R25; 20_memory.md R54, R66; 41_encode_decode.md R141; 42_session_ops.md R160, R173), the fairness of the
transport (70_reset_and_hazards.md R236), and the renaming of opaque values (92_eei_decisions.md D23). -/

namespace Sys2Proof.Machine

/-! ### Views of the trace, oldest first -/

/-- The characteristic writes the transport saw, in order. -/
def State.writes (s : State) : List (Handle × Bytes × Bool) :=
  s.trace.reverse.filterMap fun
    | .write h v ack => some (h, v, ack)
    | _ => none

/-- The results the caller received, in order. -/
def State.results (s : State) : List Result :=
  s.trace.reverse.filterMap fun
    | .result r => some r
    | _ => none

/-- The subscriptions asked of the transport, in order. -/
def State.subscribes (s : State) : List Handle :=
  s.trace.reverse.filterMap fun
    | .subscribe h => some h
    | _ => none

/-- What was delivered on the notification output, in order. -/
def State.deliveries (s : State) : List (Handle × Bytes) :=
  s.trace.reverse.filterMap fun
    | .deliver h d => some (h, d)
    | _ => none

/-- The subscription the transport holds for this instance, read off the calls made: the latest `Subscribe` that no
`Release` has followed (R28: the block keeps no copy; R204). -/
def subscription : List Output → Option Handle
  | [] => none
  | .subscribe h :: _ => some h
  | .release :: _ => none
  | .resolve _ :: rest | .write _ _ _ :: rest | .deliver _ _ :: rest | .result _ :: rest => subscription rest

/-- Quiescent: no operation is in progress (R238). -/
def State.quiescent (s : State) : Bool := !s.busy

/-! ### Sequences of commands (R164) -/

/-- One command of a caller and the answer its write will get. -/
structure CmdCall where
  did : Byte
  cid : Byte
  payload : Bytes
  a : Bool
  r : Bool
  answer : WriteAnswer
deriving DecidableEq, Repr

/-- The request. -/
def CmdCall.instr (c : CmdCall) : Instr := .cmd c.did c.cid c.payload c.a c.r

/-- The frame the command gives under sequence number `q`, if its payload fits. -/
def CmdCall.frame (c : CmdCall) (q : Byte) : Option Bytes :=
  encodeFrame { did := c.did, cid := c.cid, payload := c.payload, a := c.a, r := c.r, seq := q }

/-- The result of the command in READY (R164). -/
def CmdCall.result (c : CmdCall) : Result :=
  if c.payload.length ≤ Config.lmax then
    match c.answer with
    | .ok => .ok
    | .err kind => .transportError kind
  else .oversizedPayload

/-- The answers the transport gives: one for each command that is written. -/
def answersOf (cs : List CmdCall) : List Input :=
  cs.filterMap fun c => if c.payload.length ≤ Config.lmax then some (.written c.answer) else none

/-- The writes of successive commands to the handle `h`, the first with sequence number `q`: each command, written or not,
takes the next number (R67, R164). -/
def framesFrom (h : Handle) : Byte → List CmdCall → List (Handle × Bytes × Bool)
  | _, [] => []
  | q, c :: cs =>
    match c.frame q with
    | some f => (h, f, true) :: framesFrom h (seqNext q) cs
    | none => framesFrom h (seqNext q) cs

/-! ### The invariant -/

/-- Every handle is resolved. -/
def Handles.full (hs : Handles) : Bool :=
  hs.antidos.isSome && hs.wakecpu.isSome && hs.txpower.isSome && hs.roll.isSome && hs.notify.isSome

/-- Exactly the handles of `missing` are NONE. -/
def Handles.lacks (hs : Handles) (missing : List Endpoint) : Bool :=
  [Endpoint.antidos, .wakecpu, .txpower, .roll, .notify].all fun k => missing.contains k == (hs.get k).isNone

/-- What is staged is the string of the step: nothing, or `ok` holds of it. -/
def State.stagedOnly (s : State) (ok : Bytes → Bool) : Bool :=
  match s.frameBuf with
  | none => true
  | some v => ok v

/-- SESSION, BUSY, the operation in progress, SEQ, the handles and the frame buffer agree (R22 to R25, R160, R173). -/
def State.coherent (s : State) : Bool :=
  match s.suspended with
  | none =>
    !s.busy && s.frameBuf.isNone &&
      match s.session with
      | .idle => s.handles == Handles.unresolved && s.seq == Config.seqReset
      | .handshaking => false
      | .ready => s.handles.full
      | .closed => s.handles == Handles.unresolved
  | some (.resolving k later) =>
    s.busy && s.frameBuf.isNone && s.session == .handshaking && s.seq == Config.seqReset
      && s.handles.lacks (k :: later) && decide (k :: later).Nodup
  | some (.handshake w) =>
    s.busy && s.session == .handshaking && s.seq == Config.seqReset && s.handles.full
      && s.stagedOnly fun v => v == w.bytes s.params
  | some .command => s.busy && s.session == .ready && s.handles.full && s.stagedOnly isFrame

/-- A write the block may make: acknowledged, and either one of the three handshake strings or a frame that passes every
check of DECODE (R54, R93, R141). Every other output is fine. -/
def Output.fine (p : Params) : Output → Bool
  | .write _ v ack =>
    ack && (v == Config.antidosToken || v == p.txpowerBytes || v == Config.wakecpuByte || isFrame v)
  | .resolve _ | .subscribe _ | .release | .deliver _ _ | .result _ => true

/-- The invariant of the machine. -/
structure State.Inv (s : State) : Prop where
  /-- The parameters are such as the spec asks for. -/
  params : s.params.wf = true
  /-- The registers agree with one another. -/
  coherent : s.coherent = true
  /-- Every write ever made was one the block may make. -/
  writes : s.trace.all (Output.fine s.params) = true

/-- The notification handler is registered where the parameters have CONNECT register it: from `Subscribe` on, while the
session lives, the transport's subscription is the one for `HANDLE[notify]` (R161 line 3, R203, R204). With
`SUBSCRIBE_POINT = external` the block subscribes nowhere and nothing is asked. -/
def State.listens (s : State) : Bool :=
  match s.params.subscribePoint, s.suspended, s.session with
  | .external, _, _ => true
  | _, _, .ready => subscription s.trace == s.handles.notify
  | .afterResolve, some (.handshake _), _ => subscription s.trace == s.handles.notify
  | _, _, _ => true

/-! ### The transport answers eventually (R236, D25) -/

/-- Whether an input is an answer to the call an operation waits for: of `Resolve` in CONNECT's line 2, else of
`CharWrite`. -/
def Suspended.answeredBy : Suspended → Input → Bool
  | .resolving _ _, i =>
    match i with
    | .resolved _ => true
    | .request _ | .event _ | .written _ | .reset => false
  | .handshake _, i | .command, i =>
    match i with
    | .written _ => true
    | .request _ | .event _ | .resolved _ | .reset => false

/-- What may happen before the answer: requests are presented and notifications arrive (R224, R68). -/
def Input.passes : Input → Bool
  | .request _ => true
  | .event bs =>
    match decodeEvent bs with
    | .ok _ => true
    | .error _ => false
  | .resolved _ | .written _ | .reset => false

/-- If a call is outstanding its answer is among the inputs, after any number of requests and notifications: no bound on the
delay (R236). -/
def State.AnswerComes (s : State) : Prop :=
  ∀ p, s.awaiting = some p →
    ∃ before answer rest, s.inputs = before ++ answer :: rest ∧ before.all Input.passes = true
      ∧ p.answeredBy answer = true

/-- The fairness assumption on the transport: every `Resolve` and every `CharWrite` of the run is answered eventually (R236,
D25). Only a statement that names it assumes it; log entry 12. -/
def State.Fair (s : State) : Prop := ∀ (n : Nat) (t : State), core.run n s = .next t → t.AnswerComes

/-! ### Renaming of opaque values (R24, D23) -/

/-- A renaming of the handles the transport gives, in an input. -/
def Input.rename (f : Handle → Handle) : Input → Input
  | .resolved (.handle h) => .resolved (.handle (f h))
  | .resolved .notFound => .resolved .notFound
  | .request bs => .request bs
  | .event bs => .event bs
  | .written answer => .written answer
  | .reset => .reset

/-- A renaming of the handles the transport gave, in an output; the name an event carries is the event's own (R98). -/
def Output.rename (f : Handle → Handle) : Output → Output
  | .subscribe h => .subscribe (f h)
  | .write h v ack => .write (f h) v ack
  | .resolve fragment => .resolve fragment
  | .release => .release
  | .deliver h d => .deliver h d
  | .result r => .result r

/-- The handles under a renaming. -/
def Handles.rename (f : Handle → Handle) (hs : Handles) : Handles :=
  { antidos := hs.antidos.map f
    wakecpu := hs.wakecpu.map f
    txpower := hs.txpower.map f
    roll := hs.roll.map f
    notify := hs.notify.map f }

/-- The state with every handle renamed by `f` and the device address by `g`. -/
def State.rename (f : Handle → Handle) (g : DeviceAddr → DeviceAddr) (s : State) : State :=
  { s with
    handles := s.handles.rename f
    inputs := s.inputs.map (Input.rename f)
    trace := s.trace.map (Output.rename f)
    params := { s.params with deviceAddr := g s.params.deviceAddr } }

/-- An outcome with its next state renamed. -/
def Outcome.rename (f : Handle → Handle) (g : DeviceAddr → DeviceAddr) : Outcome → Outcome
  | .next s => .next (s.rename f g)
  | .fault e => .fault e
  | .refused r => .refused r

end Sys2Proof.Machine
end

