-- ==== Sys2Proof/Certificates/Slice0/Obligations.lean ====
section
/-! DEFINITION. The statements for the provers, each formalising rules of spec/. Where a statement says that exec or step
answers a state, the state is written out whole, so that the statement is also the frame: every field not named is
unchanged. -/

open Sys2Proof Sys2Proof.Machine

/-! ### Datapath (40_checksum_sequence.md) -/

/-- R120: the flags byte has the sync pattern above, `r` at bit 1 and `a` at bit 0, and so its four values. -/
def Obligations.FlagsByteValue : Prop :=
  (∀ a r : Bool, (flagsByte a r).extractLsb' 2 6 = 0b111111#6 ∧ (flagsByte a r).getLsbD 1 = r
      ∧ (flagsByte a r).getLsbD 0 = a)
    ∧ flagsByte false false = 0xFC ∧ flagsByte true false = 0xFD ∧ flagsByte false true = 0xFE
    ∧ flagsByte true true = 0xFF

/-- R121: the length byte is exactly `L + 1` up to 254, and there is none above: it never wraps. -/
def Obligations.DlenExact : Prop :=
  ∀ len : Nat, (len ≤ 254 → ∃ b, dlen len = some b ∧ b.toNat = len + 1) ∧ (255 ≤ len → dlen len = none)

/-- R122: the checksum is the natural sum of its inputs modulo 256, complemented, in both forms of the complement. -/
def Obligations.ChkFormula : Prop :=
  ∀ (did cid seq len : Byte) (payload : Bytes),
    (chk did cid seq len payload).toNat
        = 255 - ((payload.map BitVec.toNat).sum + did.toNat + cid.toNat + seq.toNat + len.toNat) % 256
      ∧ chk did cid seq len payload
        = BitVec.ofNat 8 ((payload.map BitVec.toNat).sum + did.toNat + cid.toNat + seq.toNat + len.toNat) ^^^ 0xFF

/-- R123: an 8-bit accumulator run over the summed bytes in ANY order gives the checksum. -/
def Obligations.ChkAccumulatorAnyOrder : Prop :=
  ∀ (did cid seq len : Byte) (payload order : Bytes),
    order.Perm ([did, cid, seq, len] ++ payload) → chkAcc order = chk did cid seq len payload

/-- R124: the two forms of the complement agree and never borrow, a sum and its complement make 255, and the bytes of a
frame from index 2 to the end sum to `0xFF`. -/
def Obligations.ComplementSums : Prop :=
  (∀ s : Byte, 255 - s = s ^^^ 0xFF ∧ (255 - s).toNat = 255 - s.toNat ∧ s + (255 - s) = 255)
    ∧ ∀ (x : FrameOperands) (f : Bytes), encodeFrame x = some f → byteSum (f.drop 2) % 256 = 0xFF

/-- R125: the successor is plus one modulo 256, and 256 applications return the value. -/
def Obligations.SeqNextWraps : Prop :=
  ∀ q : Byte, (seqNext q).toNat = (q.toNat + 1) % 256 ∧ seqNext^[256] q = q

/-- R126: on a byte string of 7 bytes or more, the check compares the checksum of bytes 2 to the last but one with the last
byte; it can equally be computed as the sum of bytes 2 to the end being `0xFF` modulo 256. -/
def Obligations.ChkOkMeaning : Prop :=
  ∀ (b0 b1 did cid seq len : Byte) (payload : Bytes) (c : Byte),
    (chkOk ([b0, b1, did, cid, seq, len] ++ payload ++ [c]) = true ↔ chk did cid seq len payload = c)
      ∧ (chkOk ([b0, b1, did, cid, seq, len] ++ payload ++ [c]) = true
          ↔ byteSum ([did, cid, seq, len] ++ payload ++ [c]) % 256 = 0xFF)

/-- R128: a change of one byte from index 2 on is always detected; a change of byte 0 or 1 never; a permutation of the
summed bytes never; two changes that cancel modulo 256 never. -/
def Obligations.ChecksumDetection : Prop :=
  (∀ (f : Bytes) (i : Nat) (b : Byte), 7 ≤ f.length → chkOk f = true → 2 ≤ i → i < f.length → byteAt f i ≠ b →
      chkOk (f.set i b) = false)
    ∧ (∀ (f : Bytes) (i : Nat) (b : Byte), 7 ≤ f.length → i < 2 → chkOk (f.set i b) = chkOk f)
    ∧ (∀ (b0 b1 c : Byte) (summed summed' : Bytes), 4 ≤ summed.length → summed.Perm summed' →
      chkOk ([b0, b1] ++ summed ++ [c]) = chkOk ([b0, b1] ++ summed' ++ [c]))
    ∧ ∀ (f : Bytes) (i j : Nat) (b b' : Byte), 7 ≤ f.length → 2 ≤ i → i < j → j < f.length →
      b + b' = byteAt f i + byteAt f j → chkOk ((f.set i b).set j b') = chkOk f

/-! ### ENCODE and DECODE (30_encoding.md, 41_encode_decode.md) -/

/-- R81: the frame of accepted operands, byte by byte, with byte 1 written in bits: six sync bits, `r`, `a`. -/
def Obligations.FrameLayout : Prop :=
  ∀ x : FrameOperands, x.payload.length ≤ 254 →
    ∃ len : Byte, len.toNat = x.payload.length + 1 ∧
      encodeFrame x = some ([0xFF, (0b111111#6 ++ BitVec.ofBool x.r) ++ BitVec.ofBool x.a, x.did, x.cid, x.seq, len]
        ++ x.payload ++ [chk x.did x.cid x.seq len x.payload])

/-- R89: the length of a frame is `6 + dlen`, between 7 and 261 bytes. -/
def Obligations.FrameLength : Prop :=
  ∀ (x : FrameOperands) (f : Bytes), encodeFrame x = some f →
    f.length = 6 + x.payload.length + 1 ∧ f.length = 6 + (byteAt f 5).toNat ∧ 7 ≤ f.length ∧ f.length ≤ 261

/-- R141: what every accepted input gives, the rejection of every longer payload, and that two accepted inputs never give
one frame. -/
def Obligations.EncodeGuarantees : Prop :=
  (∀ x : FrameOperands, x.payload.length ≤ 254 →
      ∃ f, encodeFrame x = some f ∧ f.head? = some 0xFF
        ∧ (byteAt f 5).toNat = x.payload.length + 1
        ∧ (f.getLast?).map BitVec.toNat
          = some (255 - ((x.payload.map BitVec.toNat).sum + x.did.toNat + x.cid.toNat + x.seq.toNat
              + x.payload.length + 1) % 256)
        ∧ f.length = x.payload.length + 7 ∧ chkOk f = true)
    ∧ (∀ x : FrameOperands, 254 < x.payload.length → encodeFrame x = none)
    ∧ ∀ (x y : FrameOperands) (f : Bytes), encodeFrame x = some f → encodeFrame y = some f → x = y

/-- R143: DECODE of an encoded frame gives the operands back, and ENCODE of what DECODE accepts gives the frame back, so the
two are inverse bijections. -/
def Obligations.EncodeDecodeInverse : Prop :=
  (∀ x : FrameOperands, x.payload.length ≤ 254 → ∃ f, encodeFrame x = some f ∧ decodeFrame f = .accepted x)
    ∧ ∀ (f : Bytes) (x : FrameOperands), decodeFrame f = .accepted x → encodeFrame x = some f

/-- R140: ENCODE in any accepting state gives the frame of R140 or `OversizedPayload`, and changes nothing. -/
def Obligations.EncodeServed : Prop :=
  ∀ (did cid seq : Byte) (payload : Bytes) (a r : Bool) (s : State), s.busy = false → s.session ≠ .handshaking →
    exec (.encode did cid payload a r seq) s
      = .next { s with
          trace := .result
            (if payload.length ≤ 254 then
              .frame ([0xFF, flagsByte a r, did, cid, seq, BitVec.ofNat 8 (payload.length + 1)] ++ payload
                ++ [chk did cid seq (BitVec.ofNat 8 (payload.length + 1)) payload])
            else .oversizedPayload) :: s.trace }

/-- R142: DECODE in any accepting state gives the first failing check of the five, in the spec's order, or the operands at
their positions, and changes nothing. -/
def Obligations.DecodeServed : Prop :=
  ∀ s : State, s.busy = false → s.session ≠ .handshaking →
    (∀ f : Bytes, f.length < 7 →
      exec (.decode f) s = .next { s with trace := .result (.frameRejected .tooShort) :: s.trace })
    ∧ ∀ (b0 b1 did cid seq len : Byte) (payload : Bytes) (c : Byte),
      exec (.decode ([b0, b1, did, cid, seq, len] ++ payload ++ [c])) s
        = .next { s with
            trace := .result
              (if b0 ≠ 0xFF then .frameRejected .badStart
              else if b1 &&& 0xFC ≠ 0xFC then .frameRejected .badSync
              else if len.toNat ≠ payload.length + 1 then .frameRejected .badLength
              else if c ≠ chk did cid seq len payload then .frameRejected .badChecksum
              else .operands
                { did := did, cid := cid, payload := payload, a := b1.getLsbD 0, r := b1.getLsbD 1, seq := seq })
              :: s.trace }

/-- R146: ENCODE and DECODE read no state: one result serves every accepting state, IDLE, READY and CLOSED alike; while BUSY
they wait. -/
def Obligations.PureServedInEveryState : Prop :=
  ∀ i : Instr, (∃ did cid payload a r seq, i = .encode did cid payload a r seq) ∨ (∃ f, i = .decode f) →
    ∃ res : Result, ∀ s : State,
      (s.busy = false → s.session ≠ .handshaking → exec i s = .next { s with trace := .result res :: s.trace })
        ∧ (s.busy = true → exec i s = .next { s with port := s.port ++ [encode s.params i] })

/-! ### Session operations (42_session_ops.md) -/

/-- R161 line 1 and the first call of line 2: CONNECT in IDLE. -/
def Obligations.ConnectStarts : Prop :=
  ∀ (s : State) (k : Endpoint) (later : List Endpoint), s.busy = false → s.session = .idle →
    s.params.resolveOrder = k :: later →
    exec .connect s
      = .next { s with
          busy := true, session := .handshaking, seq := 0
          suspended := some (.resolving k later), trace := .resolve k.fragment :: s.trace }

/-- R161 line 2: a handle is stored; then the next endpoint is resolved, or, after the last, line 3 subscribes with the handle
of `notify` where the parameter puts it (D12) and HS-A is staged. -/
def Obligations.HandleAnswered : Prop :=
  ∀ (s : State) (k : Endpoint) (h : Handle) (rest : List Input),
    s.busy = true → s.frameBuf = none → s.inputs = .resolved (.handle h) :: rest →
    (∀ k' later, s.suspended = some (.resolving k (k' :: later)) →
      step s = .next { s with
        inputs := rest, handles := s.handles.set k h, suspended := some (.resolving k' later)
        trace := .resolve k'.fragment :: s.trace })
    ∧ (∀ hn, s.suspended = some (.resolving k []) → s.params.subscribePoint = .afterResolve →
      (s.handles.set k h).notify = some hn →
      step s = .next { s with
        inputs := rest, handles := s.handles.set k h, suspended := some (.handshake .hsA)
        frameBuf := some [0x30, 0x31, 0x31, 0x69, 0x33], trace := .subscribe hn :: s.trace })
    ∧ (s.suspended = some (.resolving k []) → s.params.subscribePoint ≠ .afterResolve →
      step s = .next { s with
        inputs := rest, handles := s.handles.set k h, suspended := some (.handshake .hsA)
        frameBuf := some [0x30, 0x31, 0x31, 0x69, 0x33] })

/-- R193: the first `NotFound` ends CONNECT with `CharacteristicNotFound`: CLOSED, all handles NONE, BUSY clear, SEQ 0, and
nothing sent but the release the parameter may ask for (D14). -/
def Obligations.NotFoundAborts : Prop :=
  ∀ (s : State) (k : Endpoint) (later : List Endpoint) (rest : List Input), s.Inv →
    s.suspended = some (.resolving k later) → s.inputs = .resolved .notFound :: rest →
    step s = .next { s with
        inputs := rest, session := .closed, handles := Handles.unresolved, busy := false, suspended := none, seq := 0
        trace := .result .characteristicNotFound ::
          (if s.params.abortReleasesTransport then .release :: s.trace else s.trace) }

/-- R161 lines 4 to 7: an acknowledged handshake write leads to the next string, and the third to READY with result `Ok`
(there with the subscription the parameter may put after the handshake, D12). -/
def Obligations.HandshakeAcknowledged : Prop :=
  ∀ (s : State) (rest : List Input), s.busy = true → s.frameBuf = none → s.inputs = .written .ok :: rest →
    (s.suspended = some (.handshake .hsA) →
      step s = .next { s with inputs := rest, suspended := some (.handshake .hsT), frameBuf := some s.params.txpowerBytes })
    ∧ (s.suspended = some (.handshake .hsT) →
      step s = .next { s with inputs := rest, suspended := some (.handshake .hsW), frameBuf := some [0x01] })
    ∧ (s.suspended = some (.handshake .hsW) → s.params.subscribePoint ≠ .afterHandshake →
      step s = .next { s with
        inputs := rest, session := .ready, busy := false, suspended := none, trace := .result .ok :: s.trace })
    ∧ ∀ hn, s.suspended = some (.handshake .hsW) → s.params.subscribePoint = .afterHandshake →
      s.handles.notify = some hn →
      step s = .next { s with
        inputs := rest, session := .ready, busy := false, suspended := none
        trace := .result .ok :: .subscribe hn :: s.trace }

/-- R194: any error answer to a handshake write ends CONNECT with `HandshakeFailed`, whatever its kind: CLOSED, all handles
NONE, BUSY clear, SEQ 0, no later string staged. -/
def Obligations.HandshakeWriteFails : Prop :=
  ∀ (s : State) (w : HandshakeString) (kind : ErrKind) (rest : List Input), s.Inv →
    s.suspended = some (.handshake w) → s.frameBuf = none → s.inputs = .written (.err kind) :: rest →
    step s = .next { s with
        inputs := rest, session := .closed, handles := Handles.unresolved, busy := false, suspended := none, seq := 0
        trace := .result .handshakeFailed ::
          (if s.params.abortReleasesTransport then .release :: s.trace else s.trace) }

/-- R90 to R93: each handshake string, staged in its place, goes out whole as one acknowledged write to its endpoint;
`SEQ` is not changed. HS-T is the parameter `TXPOWER_BYTES` (D20, U1), whose default is `00 07` (the source's unverified
reading, log entry 18). -/
def Obligations.HandshakeHandOver : Prop :=
  (∀ (s : State) (h : Handle), s.busy = true →
    (s.suspended = some (.handshake .hsA) → s.frameBuf = some [0x30, 0x31, 0x31, 0x69, 0x33] →
      s.handles.antidos = some h →
      exec .hsA s = .next { s with
        frameBuf := none, trace := .write h [0x30, 0x31, 0x31, 0x69, 0x33] true :: s.trace })
    ∧ (s.suspended = some (.handshake .hsT) → s.frameBuf = some s.params.txpowerBytes → s.handles.txpower = some h →
      exec .hsT s = .next { s with frameBuf := none, trace := .write h s.params.txpowerBytes true :: s.trace })
    ∧ (s.suspended = some (.handshake .hsW) → s.frameBuf = some [0x01] → s.handles.wakecpu = some h →
      exec .hsW s = .next { s with frameBuf := none, trace := .write h [0x01] true :: s.trace }))
    ∧ State.reset.params.txpowerBytes = [0x00, 0x07]

/-- R163 line 4, R81: the frame staged by CMD goes out whole as one acknowledged write to `roll`. -/
def Obligations.FrameHandOver : Prop :=
  ∀ (r a : Bool) (did cid seq len : Byte) (payload : Bytes) (c : Byte) (s : State) (h : Handle), s.busy = true →
    s.suspended = some .command →
    s.frameBuf = some ([0xFF, (0b111111#6 ++ BitVec.ofBool r) ++ BitVec.ofBool a, did, cid, seq, len] ++ payload ++ [c]) →
    s.handles.roll = some h →
    exec (.frame r a did cid seq len payload c) s
      = .next { s with
          frameBuf := none
          trace := .write h
            ([0xFF, (0b111111#6 ++ BitVec.ofBool r) ++ BitVec.ofBool a, did, cid, seq, len] ++ payload ++ [c]) true
            :: s.trace }

/-- R222, R101: a wire string that is not the one staged for the operation in progress is refused: software cannot reorder,
skip or repeat a handshake write. A handshake string is handed over only in CONNECT at that string, a frame only in CMD.
(That the refusal is the model's answer: log entry 9.) -/
def Obligations.WireOnlyInPlace : Prop :=
  ∀ (i : Instr) (k : Endpoint) (s t : State), i.channel = .wire k →
    (s.frameBuf ≠ some (encode s.params i) → exec i s = .refused .wireOutOfPlace)
    ∧ (s.busy = false → exec i s = .refused .wireOutOfPlace)
    ∧ (exec i s = .next t →
        (∃ w : HandshakeString, i = w.instr ∧ s.suspended = some (.handshake w))
        ∨ ((∃ r a did cid seq len payload c, i = .frame r a did cid seq len payload c) ∧ s.suspended = some .command))

/-- R163 lines 1 to 3 in READY: the counter's read and increment and the framing are one step; the frame carries the value
read. -/
def Obligations.CmdFrames : Prop :=
  ∀ (did cid : Byte) (payload : Bytes) (a r : Bool) (s : State), s.busy = false → s.session = .ready →
    payload.length ≤ 254 →
    exec (.cmd did cid payload a r) s
      = .next { s with
          busy := true, seq := seqNext s.seq, suspended := some .command
          frameBuf := some ([0xFF, flagsByte a r, did, cid, s.seq, BitVec.ofNat 8 (payload.length + 1)] ++ payload
            ++ [chk did cid s.seq (BitVec.ofNat 8 (payload.length + 1)) payload]) }

/-- R192: `OversizedPayload` for ENCODE changes nothing, for CMD in READY it advances SEQ and nothing else. That an oversized
CMD spends a sequence number is the spec's decision D5 (U15), which the model follows: log entry 15. -/
def Obligations.OversizedPayloadEffect : Prop :=
  ∀ (did cid seq : Byte) (payload : Bytes) (a r : Bool) (s : State), s.busy = false → s.suspended = none →
    255 ≤ payload.length →
    (s.session ≠ .handshaking → exec (.encode did cid payload a r seq) s
      = .next { s with trace := .result .oversizedPayload :: s.trace })
    ∧ (s.session = .ready → exec (.cmd did cid payload a r) s
      = .next { s with seq := seqNext s.seq, trace := .result .oversizedPayload :: s.trace })

/-- R195 and the success of R163 line 4: the answer to the write of a frame ends CMD with `Ok` or with the transport's kind
unchanged; SESSION stays READY and the handles stay. -/
def Obligations.CmdAnswered : Prop :=
  ∀ (s : State) (answer : WriteAnswer) (rest : List Input), s.busy = true → s.suspended = some .command →
    s.frameBuf = none → s.inputs = .written answer :: rest →
    step s = .next { s with
        inputs := rest, busy := false, suspended := none
        trace := .result (match answer with
          | .ok => .ok
          | .err kind => .transportError kind) :: s.trace }

/-- R196: in CLOSED every session operation gives `SessionClosed` and changes nothing; ENCODE and DECODE never give it. -/
def Obligations.SessionClosedRefuses : Prop :=
  (∀ (i : Instr) (s : State), s.busy = false → s.session = .closed →
      (i = .connect ∨ i = .disconnect ∨ ∃ did cid payload a r, i = .cmd did cid payload a r) →
      exec i s = .next { s with trace := .result .sessionClosed :: s.trace })
    ∧ ∀ (i : Instr) (s t : State), s.busy = false → exec i s = .next t →
      (∃ did cid payload a r seq, i = .encode did cid payload a r seq) ∨ (∃ f, i = .decode f) →
      t.trace ≠ .result .sessionClosed :: s.trace

/-- R197: CMD and DISCONNECT in IDLE, CONNECT in READY, and the reserved op codes in every accepting state give `IllegalOp`;
nothing changes and nothing is sent. -/
def Obligations.IllegalOpChangesNothing : Prop :=
  ∀ (i : Instr) (s : State), s.busy = false → s.session ≠ .handshaking →
    ((s.session = .idle ∧ (i = .disconnect ∨ ∃ did cid payload a r, i = .cmd did cid payload a r))
      ∨ (s.session = .ready ∧ i = .connect) ∨ i = .reserved5 ∨ i = .reserved6 ∨ i = .reserved7) →
    exec i s = .next { s with trace := .result .illegalOp :: s.trace }

/-- R165: DISCONNECT in READY releases the transport, clears the handles and closes, in one step, leaving SEQ, and ends the
subscription; in CLOSED and IDLE it changes nothing. -/
def Obligations.DisconnectEffect : Prop :=
  ∀ s : State, s.busy = false →
    (s.session = .ready → exec .disconnect s
      = .next { s with
          handles := Handles.unresolved, session := .closed, trace := .result .ok :: .release :: s.trace })
    ∧ (s.session = .closed → exec .disconnect s = .next { s with trace := .result .sessionClosed :: s.trace })
    ∧ (s.session = .idle → exec .disconnect s = .next { s with trace := .result .illegalOp :: s.trace })
    ∧ ∀ t, s.session = .ready → exec .disconnect s = .next t → subscription t.trace = none

/-- R172: NOTIFY delivers the pair unchanged in HANDSHAKING and READY, BUSY or not, and does nothing in IDLE and CLOSED; no
state is written. -/
def Obligations.NotifyEffect : Prop :=
  ∀ (h : Handle) (data : Bytes) (s : State),
    (s.session = .handshaking ∨ s.session = .ready →
      exec (.notify h data) s = .next { s with trace := .deliver h data :: s.trace })
    ∧ (s.session = .idle ∨ s.session = .closed → exec (.notify h data) s = .next s)

/-- R162, every row, for every resolve order, every place of the subscription and every value of `TXPOWER_BYTES` (D20, log
entry 18): CONNECT presented in IDLE, with the transport answering as the row says, ends as the row says. -/
def Obligations.ConnectOutcomes : Prop :=
  ∀ (s : State) (hs : List Handle) (rest : List Input), s.Inv → s.session = .idle → s.port = [encode s.params .connect] →
    -- the resolve of rank `hs.length + 1` is not found
    (hs.length < 5 → s.inputs = hs.map (fun h => .resolved (.handle h)) ++ .resolved .notFound :: rest →
      ∃ t, core.run (hs.length + 2) s = .next t ∧ t.session = .closed ∧ t.seq = 0 ∧ t.busy = false
        ∧ t.handles = Handles.unresolved ∧ t.port = [] ∧ t.inputs = rest
        ∧ t.writes = s.writes ∧ t.subscribes = s.subscribes ∧ t.results = s.results ++ [.characteristicNotFound])
    -- every endpoint is resolved
    ∧ ∀ hA hT hW hN, hs.length = 5 →
      (Endpoint.antidos, hA) ∈ s.params.resolveOrder.zip hs → (Endpoint.txpower, hT) ∈ s.params.resolveOrder.zip hs →
      (Endpoint.wakecpu, hW) ∈ s.params.resolveOrder.zip hs → (Endpoint.notify, hN) ∈ s.params.resolveOrder.zip hs →
      (∀ kind, s.inputs = hs.map (fun h => .resolved (.handle h)) ++ .written (.err kind) :: rest →
        ∃ t, core.run 8 s = .next t ∧ t.session = .closed ∧ t.seq = 0 ∧ t.busy = false
          ∧ t.handles = Handles.unresolved ∧ t.inputs = rest ∧ t.results = s.results ++ [.handshakeFailed]
          ∧ t.subscribes = s.subscribes ++ (if s.params.subscribePoint = .afterResolve then [hN] else [])
          ∧ t.writes = s.writes ++ [(hA, Config.antidosToken, true)])
      ∧ (∀ kind, s.inputs = hs.map (fun h => .resolved (.handle h)) ++ .written .ok :: .written (.err kind) :: rest →
        ∃ t, core.run 10 s = .next t ∧ t.session = .closed ∧ t.seq = 0 ∧ t.busy = false
          ∧ t.handles = Handles.unresolved ∧ t.inputs = rest ∧ t.results = s.results ++ [.handshakeFailed]
          ∧ t.subscribes = s.subscribes ++ (if s.params.subscribePoint = .afterResolve then [hN] else [])
          ∧ t.writes = s.writes ++ [(hA, Config.antidosToken, true), (hT, s.params.txpowerBytes, true)])
      ∧ (∀ kind, s.inputs = hs.map (fun h => .resolved (.handle h))
            ++ .written .ok :: .written .ok :: .written (.err kind) :: rest →
        ∃ t, core.run 12 s = .next t ∧ t.session = .closed ∧ t.seq = 0 ∧ t.busy = false
          ∧ t.handles = Handles.unresolved ∧ t.inputs = rest ∧ t.results = s.results ++ [.handshakeFailed]
          ∧ t.subscribes = s.subscribes ++ (if s.params.subscribePoint = .afterResolve then [hN] else [])
          ∧ t.writes = s.writes ++ [(hA, Config.antidosToken, true), (hT, s.params.txpowerBytes, true),
              (hW, Config.wakecpuByte, true)])
      ∧ (s.inputs = hs.map (fun h => .resolved (.handle h)) ++ .written .ok :: .written .ok :: .written .ok :: rest →
        ∃ t, core.run 12 s = .next t ∧ t.session = .ready ∧ t.seq = 0 ∧ t.busy = false
          ∧ (∀ k h, (k, h) ∈ s.params.resolveOrder.zip hs → t.handles.get k = some h)
          ∧ t.inputs = rest ∧ t.results = s.results ++ [.ok]
          ∧ t.subscribes = s.subscribes ++ (if s.params.subscribePoint = .external then [] else [hN])
          ∧ t.writes = s.writes ++ [(hA, Config.antidosToken, true), (hT, s.params.txpowerBytes, true),
              (hW, Config.wakecpuByte, true)])

/-- R164: commands presented to a READY block, each write answered as the transport likes: every command, whatever its result,
takes the next sequence number, the frames carry the numbers read, and the session stays READY. So the N-th command accepted
since CONNECT, counted from 0, has sequence number N mod 256. What happens after the commands (`rest`) is anything, but for a
notification that a draw would put before them (R200), which NotifyDisturbsNothing is about. -/
def Obligations.CmdSequence : Prop :=
  ∀ (cs : List CmdCall) (s : State) (h : Handle) (rest : List Input), s.Inv → s.busy = false → s.session = .ready →
    s.handles.roll = some h → s.port = cs.map (fun c => encode s.params c.instr) → s.inputs = answersOf cs ++ rest →
    ((∀ e, rest.head? ≠ some (.event e)) ∨ true ∉ s.turns) →
    ∃ n t, core.run n s = .next t ∧ t.session = .ready ∧ t.busy = false ∧ t.port = [] ∧ t.inputs = rest
      ∧ t.handles = s.handles ∧ t.seq.toNat = (s.seq.toNat + cs.length) % 256
      ∧ t.writes = s.writes ++ framesFrom h s.seq cs
      ∧ t.results = s.results ++ cs.map CmdCall.result

/-! ### The step (00_scope.md R12, 60_exceptions.md, 70_reset_and_hazards.md) -/

/-- A step runs the instruction that stands where the step takes one from: a staged wire string before anything else, then
the oldest request of an accepting block, then an event among the inputs; where a request could be accepted and an event is
next, the draw says which of the two goes first, and is used up. -/
def Obligations.StepRunsInstruction : Prop :=
  ∀ (s : State) (bs : Bytes) (i : Instr),
    (∀ k, s.frameBuf = some bs → s.writePort = some k → decode s.params (.wire k) bs = .ok i → step s = exec i s)
    ∧ (∀ ps, s.frameBuf = none → s.busy = false → s.session ≠ .handshaking → s.port = bs :: ps →
      decode s.params .request bs = .ok i →
      ((∀ e, s.inputs.head? ≠ some (.event e)) → step s = exec i { s with port := ps })
      ∧ ∀ e, s.inputs.head? = some (.event e) → s.turns.head? ≠ some true →
        step s = exec i { s with port := ps, turns := s.turns.tail })
    ∧ ∀ rest, s.frameBuf = none → s.inputs = .event bs :: rest → decode s.params .event bs = .ok i →
      (s.busy = true ∨ s.session = .handshaking ∨ s.port = [] → step s = exec i { s with inputs := rest })
      ∧ ∀ ds, s.busy = false → s.session ≠ .handshaking → s.port ≠ [] → s.turns = true :: ds →
        step s = exec i { s with inputs := rest, turns := ds }

/-- R200 (an inference the spec marks as its own): a request and a notification may be simultaneous, and either order of the
two steps is allowed: in every state of the invariant in which both could be next there is a draw for each order, and after
the first step the other one is still to come (log entry 2). -/
def Obligations.RequestOrNotificationFirst : Prop :=
  ∀ (s : State) (bs e : Bytes) (ps : List Bytes) (rest : List Input) (i n : Instr) (ds : List Bool),
    s.Inv → s.busy = false → s.port = bs :: ps → s.inputs = .event e :: rest →
    decode s.params .request bs = .ok i → decode s.params .event e = .ok n →
    (∃ t, step { s with turns := true :: ds } = .next t ∧ exec n { s with inputs := rest, turns := ds } = .next t
      ∧ t.port = bs :: ps ∧ t.inputs = rest)
    ∧ ∃ t, step { s with turns := false :: ds } = .next t ∧ exec i { s with port := ps, turns := ds } = .next t
      ∧ t.port = ps ∧ t.inputs = .event e :: rest

/-- R224, R206: while BUSY is set a request waits at the port, and nothing but the transport's answer ends the wait. (In
HANDSHAKING a request waits also where BUSY is clear, a state that no run reaches: the model's choice, log entry 11.) -/
def Obligations.RequestsWaitWhileBusy : Prop :=
  ∀ s : State,
    (∀ i : Instr, s.busy = true ∨ s.session = .handshaking → i.channel = .request →
      exec i s = .next { s with port := s.port ++ [encode s.params i] })
    ∧ (∀ bs rest, s.busy = true → s.frameBuf = none → s.inputs = .request bs :: rest →
      step s = .next { s with inputs := rest, port := s.port ++ [bs] })
    ∧ ∀ t, s.busy = true → step s = .next t → t.busy = false →
      (∃ answer, s.inputs.head? = some (.resolved answer)) ∨ ∃ answer, s.inputs.head? = some (.written answer)

/-- R220, R30: the reset state; nothing is subscribed in it, and of the session operations only CONNECT runs there. -/
def Obligations.ResetState : Prop :=
  (State.reset.session = .idle ∧ State.reset.seq = 0 ∧ (∀ k, State.reset.handles.get k = none)
      ∧ State.reset.busy = false ∧ State.reset.suspended = none)
    ∧ subscription State.reset.trace = none
    ∧ (∃ t, exec .connect State.reset = .next t ∧ t.session = .handshaking)
    ∧ ∀ i : Instr, (i = .disconnect ∨ ∃ did cid payload a r, i = .cmd did cid payload a r) →
      ∃ t, exec i State.reset = .next t ∧ t.session = .idle ∧ t.busy = false

/-- R221 with the model's treatment of the ports (log entry 14): a reset while BUSY is clear gives the reset state with the
instance's parameters, whatever it was before; while BUSY is set it is refused (U9), also with requests waiting. -/
def Obligations.ResetInput : Prop :=
  ∀ (s : State) (rest : List Input), s.frameBuf = none → s.inputs = .reset :: rest →
    (s.busy = false → s.port = [] ∨ s.session = .handshaking →
      step s = .next { State.reset with port := s.port, inputs := rest, turns := s.turns, params := s.params })
    ∧ (s.busy = true → step s = .refused .resetWhileBusy)

/-- R66: at most one write is outstanding. A step that issues a write (the writes seen grow; a reset, taken only with nothing
staged, begins the list afresh) leaves the block suspended on it with nothing staged, and a suspended block with nothing
staged issues no write. -/
def Obligations.OneWriteOutstanding : Prop :=
  ∀ s t : State, s.Inv → step s = .next t →
    (t.writes ≠ s.writes → ¬ (s.frameBuf = none ∧ s.inputs.head? = some .reset) →
        t.busy = true ∧ t.frameBuf = none ∧ t.awaiting ≠ none)
    ∧ (s.awaiting ≠ none → t.writes = s.writes)

/-- R23: SEQ is written by a CMD accepted in READY, as its successor, and by nothing else but a reset. -/
def Obligations.SeqOnlyByCmd : Prop :=
  ∀ s t : State, s.Inv → step s = .next t →
    t.seq = s.seq
      ∨ (t.seq = seqNext s.seq ∧ s.session = .ready ∧ s.busy = false
        ∧ ∃ bs did cid payload a r, s.port.head? = some bs ∧ decode s.params .request bs = .ok (.cmd did cid payload a r))
      ∨ (t.seq = 0 ∧ s.busy = false ∧ s.inputs.head? = some .reset)

/-- R173: every change of SESSION is one of the table's, by the table's event. -/
def Obligations.SessionTransitions : Prop :=
  ∀ s t : State, s.Inv → step s = .next t → t.session ≠ s.session →
    (t.session = .idle ∧ s.busy = false ∧ s.inputs.head? = some .reset)
    ∨ (s.session = .idle ∧ t.session = .handshaking ∧ ∃ bs, s.port.head? = some bs ∧ decode s.params .request bs = .ok .connect)
    ∨ (s.session = .handshaking ∧ t.session = .ready ∧ s.awaiting = some (.handshake .hsW)
      ∧ s.inputs.head? = some (.written .ok))
    ∨ (s.session = .handshaking ∧ t.session = .closed ∧ (∃ k later, s.awaiting = some (.resolving k later))
      ∧ s.inputs.head? = some (.resolved .notFound))
    ∨ (s.session = .handshaking ∧ t.session = .closed ∧ (∃ w, s.awaiting = some (.handshake w))
      ∧ ∃ kind, s.inputs.head? = some (.written (.err kind)))
    ∨ (s.session = .ready ∧ t.session = .closed
      ∧ ∃ bs, s.port.head? = some bs ∧ decode s.params .request bs = .ok .disconnect)

/-- R232: a closed instance stays closed, with no write, subscription or delivery ever again, unless it is reset. -/
def Obligations.ClosedStaysClosed : Prop :=
  ∀ (n : Nat) (s t : State), s.Inv → s.session = .closed → .reset ∉ s.inputs → core.run n s = .next t →
    t.session = .closed ∧ t.seq = s.seq ∧ t.writes = s.writes ∧ t.subscribes = s.subscribes
      ∧ t.deliveries = s.deliveries

/-- R24: a handle changes only from NONE to the transport's answer during CONNECT, once each and never re-resolved, or back to
NONE when the session closes or the instance is reset. -/
def Obligations.HandleChanges : Prop :=
  ∀ (s t : State) (k : Endpoint), s.Inv → step s = .next t → t.handles.get k ≠ s.handles.get k →
    (∃ h later, s.awaiting = some (.resolving k later) ∧ s.inputs.head? = some (.resolved (.handle h))
      ∧ s.session = .handshaking ∧ s.handles.get k = none ∧ t.handles.get k = some h)
    ∨ (t.handles = Handles.unresolved ∧ t.session = .closed)
    ∨ (t.handles = Handles.unresolved ∧ s.inputs.head? = some .reset)

/-- R68, R172: a notification among the inputs disturbs nothing: whatever the block is doing, the step changes only the input
list and, in HANDSHAKING and READY, the notification output. -/
def Obligations.NotifyDisturbsNothing : Prop :=
  ∀ (s t : State) (bs : Bytes) (rest : List Input), s.frameBuf = none →
    (s.busy = true ∨ s.session = .handshaking ∨ s.port = []) → s.inputs = .event bs :: rest → step s = .next t →
    ∃ h data, decode s.params .event bs = .ok (.notify h data)
      ∧ t = { s with
          inputs := rest
          trace := if s.session = .handshaking ∨ s.session = .ready then .deliver h data :: s.trace else s.trace }

/-- R236: with no answer the operation stays suspended: the step changes nothing. -/
def Obligations.UnansweredHangs : Prop :=
  ∀ s : State, s.busy = true → s.frameBuf = none → s.inputs = [] → step s = .next s

/-- R236, D25: under the fairness assumption that the transport answers every call eventually, with no bound on the delay,
every operation in progress ends and gives its caller exactly one result. Without it the operation may hang:
UnansweredHangs. -/
def Obligations.FairOperationEnds : Prop :=
  ∀ s : State, s.Inv → s.Fair → s.busy = true →
    ∃ n t r, core.run n s = .next t ∧ t.busy = false ∧ t.results = s.results ++ [r]

/-- R24, R31, D23: the block does nothing with a handle but store it and pass it back, and nothing with the device address: a
step commutes with every renaming of the handles the transport gives and of the address, injective or not. So the numbers
that stand for them in the model (log entry 6) stand for values of any type. -/
def Obligations.HandlesOpaque : Prop :=
  ∀ (f : Handle → Handle) (g : DeviceAddr → DeviceAddr) (s : State),
    step (s.rename f g) = Outcome.rename f g (step s)

/-- In every state of the invariant a staged string is handed over by the very next step, to the endpoint of its operation:
the forming of a string and its write cannot be separated (R12, R61). -/
def Obligations.StagedIsHandedOver : Prop :=
  ∀ (s : State) (v : Bytes), s.Inv → s.frameBuf = some v →
    ∃ k h, s.handles.get k = some h
      ∧ (s.suspended = some .command ∧ k = .roll ∧ isFrame v = true
        ∨ ∃ w : HandshakeString, s.suspended = some (.handshake w) ∧ k = w.endpoint ∧ v = w.bytes s.params)
      ∧ step s = .next { s with frameBuf := none, trace := .write h v true :: s.trace }

/-- In every state of the invariant no step uses a handle that is NONE (R54: "a handle obtained from `Resolve`"). -/
def Obligations.NoUnresolvedHandle : Prop :=
  ∀ s : State, s.Inv → step s ≠ .fault .unresolvedHandle

/-- A step never writes the parameters of the instance (R31). -/
def Obligations.ParamsKept : Prop := ∀ s t : State, step s = .next t → t.params = s.params

/-- The reset state meets the invariant. -/
def Obligations.ResetInv : Prop := State.reset.Inv

/-- Every step keeps the invariant: SESSION, BUSY, the operation in progress, SEQ and the handles agree, and every write ever
made was acknowledged and is a handshake string or a frame that passes every check (R22 to R25, R54, R141). -/
def Obligations.StepKeepsInv : Prop := ∀ s t : State, s.Inv → step s = .next t → t.Inv

/-- Every step keeps the notification handler registered for `HANDLE[notify]` from `Subscribe` to the end of the session
(R161 line 3, R203, R204). -/
def Obligations.StepKeepsListening : Prop :=
  ∀ s t : State, s.Inv → s.listens = true → step s = .next t → t.listens = true

/-! ### Encodings (30_encoding.md) -/

/-- For every instruction, with every operand at every value and under every well-formed choice of the parameters, the
decoder of its channel reads it back from its bytes, on the request and event channels with anything after them. -/
def Obligations.DecodeEncode : Prop :=
  ∀ (p : Params) (i : Instr) (after : Bytes), p.wf = true → ((∃ k, i.channel = .wire k) → after = []) →
    decode p i.channel (encode p i ++ after) = .ok i

/-- The data of a write to an endpoint has one meaning: what the decoder reads is written as the same bytes, for that
endpoint. -/
def Obligations.WireEncodeDecode : Prop :=
  ∀ (p : Params) (k : Endpoint) (bs : Bytes) (i : Instr), decode p (.wire k) bs = .ok i →
    encode p i = bs ∧ i.channel = .wire k

/-- The frame ENCODE forms is read on `roll` as a well-formed FRAME with the same operands. -/
def Obligations.EncodedFrameWellFormed : Prop :=
  ∀ (p : Params) (x : FrameOperands) (f : Bytes) (lmax : Nat), encodeFrame x = some f →
    ∃ len c, decode p (.wire .roll) f = .ok (.frame x.r x.a x.did x.cid x.seq len x.payload c)
      ∧ (Instr.frame x.r x.a x.did x.cid x.seq len x.payload c).wf lmax = true

/-- The op codes of R95 (the spec's own numbers, D2, the default of `OP_CODE`) in bits [2:0] of a request, whatever its other
bits. -/
def Obligations.OpCodes : Prop :=
  (∀ b : Byte, b.extractLsb' 0 3 = 0#3 → decode Config.defaults .request [b] = .ok .connect)
    ∧ (∀ b : Byte, b.extractLsb' 0 3 = 1#3 →
      decode Config.defaults .request [b, 2, 0x20, 1, 1, 0] = .ok (.cmd 2 0x20 [] true true))
    ∧ (∀ b : Byte, b.extractLsb' 0 3 = 2#3 → decode Config.defaults .request [b] = .ok .disconnect)
    ∧ (∀ b : Byte, b.extractLsb' 0 3 = 3#3 →
      decode Config.defaults .request [b, 2, 0x20, 1, 0, 7, 0] = .ok (.encode 2 0x20 [] true false 7))
    ∧ (∀ b : Byte, b.extractLsb' 0 3 = 4#3 → decode Config.defaults .request [b, 1, 0xFF] = .ok (.decode [0xFF]))
    ∧ (∀ b : Byte, b.extractLsb' 0 3 = 5#3 → decode Config.defaults .request [b] = .ok .reserved5)
    ∧ (∀ b : Byte, b.extractLsb' 0 3 = 6#3 → decode Config.defaults .request [b] = .ok .reserved6)
    ∧ ∀ b : Byte, b.extractLsb' 0 3 = 7#3 → decode Config.defaults .request [b] = .ok .reserved7

/-- Words of the opcode table and wire strings written out from the spec: the request rows' op codes, HS-A, HS-T, HS-W, and the
frame of R140's example. -/
def Obligations.WrittenWords : Prop :=
  decodeTableWord 8 0 = some .connect ∧ decodeTableWord 8 1 = some (.cmd 0 0 [] false false)
    ∧ decodeTableWord 8 2 = some .disconnect ∧ decodeTableWord 8 3 = some (.encode 0 0 [] false false 0)
    ∧ decodeTableWord 8 4 = some (.decode []) ∧ decodeTableWord 8 7 = some .reserved7
    ∧ decodeTableWord 40 0x3031316933 = some .hsA ∧ decodeTableWord 16 0x0007 = some .hsT
    ∧ decode Config.defaults (.wire .wakecpu) [0x01] = .ok .hsW
    ∧ decode Config.defaults (.wire .roll) [0xFF, 0xFF, 0x02, 0x20, 0x00, 0x05, 0xFE, 0x0A, 0x02, 0x00, 0xCE]
      = .ok (.frame true true 0x02 0x20 0x00 0x05 [0xFE, 0x0A, 0x02, 0x00] 0xCE)

/-- R52: the fragment of each endpoint, which is what `Resolve` is given, and its full UUID: prefix, fragment, suffix. -/
def Obligations.UuidTable : Prop :=
  (∀ k : Endpoint, k.uuid = 0x22bb746f#32 ++ k.fragment ++ 0x75542d6f726568705327#80)
    ∧ (∀ (s : State) (k : Endpoint) (later : List Endpoint),
      (s.callResolve k later).trace = .resolve k.fragment :: s.trace)
    ∧ Endpoint.antidos.fragment = 0x2bbd ∧ Endpoint.wakecpu.fragment = 0x2bbf ∧ Endpoint.txpower.fragment = 0x2bb2
    ∧ Endpoint.roll.fragment = 0x2ba1 ∧ Endpoint.notify.fragment = 0x2ba6
    ∧ Endpoint.antidos.uuid = 0x22bb746f2bbd75542d6f726568705327 ∧ Endpoint.wakecpu.uuid = 0x22bb746f2bbf75542d6f726568705327
    ∧ Endpoint.txpower.uuid = 0x22bb746f2bb275542d6f726568705327 ∧ Endpoint.roll.uuid = 0x22bb746f2ba175542d6f726568705327
    ∧ Endpoint.notify.uuid = 0x22bb746f2ba675542d6f726568705327

/-- R191: the result codes and sub-codes (the spec's own numbers, D3, the default of `RESULT_CODE`). -/
def Obligations.ResultCodes : Prop :=
  let code := Result.code Config.resultCodes
  (∀ f, code (.frame f) = (0, none)) ∧ (∀ x, code (.operands x) = (0, none)) ∧ code .ok = (0, none)
    ∧ code .oversizedPayload = (1, none) ∧ code .characteristicNotFound = (2, none) ∧ code .handshakeFailed = (3, none)
    ∧ code (.transportError .connectionLost) = (4, some 0) ∧ code (.transportError .writeTimeout) = (4, some 1)
    ∧ code (.transportError .notAcknowledged) = (4, some 2)
    ∧ code .sessionClosed = (5, none) ∧ code .illegalOp = (6, none)
    ∧ code (.frameRejected .tooShort) = (7, some 0) ∧ code (.frameRejected .badStart) = (7, some 1)
    ∧ code (.frameRejected .badSync) = (7, some 2) ∧ code (.frameRejected .badLength) = (7, some 3)
    ∧ code (.frameRejected .badChecksum) = (7, some 4)
end

