-- ==== Sys2Proof/Laws/State.lean ====
section
/-! SUPPORT. What each named update of the state does to each field, by definition, so that no proof unfolds one. -/

namespace Sys2Proof.Machine

variable (s : State)

@[simp] theorem State.setHandle_session (k : Endpoint) (h : Handle) : (s.setHandle k h).session = s.session := rfl
@[simp] theorem State.setHandle_seq (k : Endpoint) (h : Handle) : (s.setHandle k h).seq = s.seq := rfl
@[simp] theorem State.setHandle_handles (k : Endpoint) (h : Handle) : (s.setHandle k h).handles = s.handles.set k h := rfl
@[simp] theorem State.setHandle_busy (k : Endpoint) (h : Handle) : (s.setHandle k h).busy = s.busy := rfl
@[simp] theorem State.setHandle_suspended (k : Endpoint) (h : Handle) : (s.setHandle k h).suspended = s.suspended := rfl
@[simp] theorem State.setHandle_frameBuf (k : Endpoint) (h : Handle) : (s.setHandle k h).frameBuf = s.frameBuf := rfl
@[simp] theorem State.setHandle_port (k : Endpoint) (h : Handle) : (s.setHandle k h).port = s.port := rfl
@[simp] theorem State.setHandle_inputs (k : Endpoint) (h : Handle) : (s.setHandle k h).inputs = s.inputs := rfl
@[simp] theorem State.setHandle_turns (k : Endpoint) (h : Handle) : (s.setHandle k h).turns = s.turns := rfl
@[simp] theorem State.setHandle_trace (k : Endpoint) (h : Handle) : (s.setHandle k h).trace = s.trace := rfl
@[simp] theorem State.setHandle_params (k : Endpoint) (h : Handle) : (s.setHandle k h).params = s.params := rfl

@[simp] theorem State.emit_session (o : Output) : (s.emit o).session = s.session := rfl
@[simp] theorem State.emit_seq (o : Output) : (s.emit o).seq = s.seq := rfl
@[simp] theorem State.emit_handles (o : Output) : (s.emit o).handles = s.handles := rfl
@[simp] theorem State.emit_busy (o : Output) : (s.emit o).busy = s.busy := rfl
@[simp] theorem State.emit_suspended (o : Output) : (s.emit o).suspended = s.suspended := rfl
@[simp] theorem State.emit_frameBuf (o : Output) : (s.emit o).frameBuf = s.frameBuf := rfl
@[simp] theorem State.emit_port (o : Output) : (s.emit o).port = s.port := rfl
@[simp] theorem State.emit_inputs (o : Output) : (s.emit o).inputs = s.inputs := rfl
@[simp] theorem State.emit_turns (o : Output) : (s.emit o).turns = s.turns := rfl
@[simp] theorem State.emit_trace (o : Output) : (s.emit o).trace = o :: s.trace := rfl
@[simp] theorem State.emit_params (o : Output) : (s.emit o).params = s.params := rfl

@[simp] theorem State.reply_session (r : Result) : (s.reply r).session = s.session := rfl
@[simp] theorem State.reply_seq (r : Result) : (s.reply r).seq = s.seq := rfl
@[simp] theorem State.reply_handles (r : Result) : (s.reply r).handles = s.handles := rfl
@[simp] theorem State.reply_busy (r : Result) : (s.reply r).busy = s.busy := rfl
@[simp] theorem State.reply_suspended (r : Result) : (s.reply r).suspended = s.suspended := rfl
@[simp] theorem State.reply_frameBuf (r : Result) : (s.reply r).frameBuf = s.frameBuf := rfl
@[simp] theorem State.reply_port (r : Result) : (s.reply r).port = s.port := rfl
@[simp] theorem State.reply_inputs (r : Result) : (s.reply r).inputs = s.inputs := rfl
@[simp] theorem State.reply_turns (r : Result) : (s.reply r).turns = s.turns := rfl
@[simp] theorem State.reply_trace (r : Result) : (s.reply r).trace = .result r :: s.trace := rfl
@[simp] theorem State.reply_params (r : Result) : (s.reply r).params = s.params := rfl

@[simp] theorem State.finish_session (r : Result) : (s.finish r).session = s.session := rfl
@[simp] theorem State.finish_seq (r : Result) : (s.finish r).seq = s.seq := rfl
@[simp] theorem State.finish_handles (r : Result) : (s.finish r).handles = s.handles := rfl
@[simp] theorem State.finish_busy (r : Result) : (s.finish r).busy = false := rfl
@[simp] theorem State.finish_suspended (r : Result) : (s.finish r).suspended = none := rfl
@[simp] theorem State.finish_frameBuf (r : Result) : (s.finish r).frameBuf = s.frameBuf := rfl
@[simp] theorem State.finish_port (r : Result) : (s.finish r).port = s.port := rfl
@[simp] theorem State.finish_inputs (r : Result) : (s.finish r).inputs = s.inputs := rfl
@[simp] theorem State.finish_turns (r : Result) : (s.finish r).turns = s.turns := rfl
@[simp] theorem State.finish_trace (r : Result) : (s.finish r).trace = .result r :: s.trace := rfl
@[simp] theorem State.finish_params (r : Result) : (s.finish r).params = s.params := rfl

@[simp] theorem State.close_session : s.close.session = .closed := rfl
@[simp] theorem State.close_seq : s.close.seq = s.seq := rfl
@[simp] theorem State.close_handles : s.close.handles = Handles.unresolved := rfl
@[simp] theorem State.close_busy : s.close.busy = s.busy := rfl
@[simp] theorem State.close_suspended : s.close.suspended = s.suspended := rfl
@[simp] theorem State.close_frameBuf : s.close.frameBuf = s.frameBuf := rfl
@[simp] theorem State.close_port : s.close.port = s.port := rfl
@[simp] theorem State.close_inputs : s.close.inputs = s.inputs := rfl
@[simp] theorem State.close_turns : s.close.turns = s.turns := rfl
@[simp] theorem State.close_trace : s.close.trace = s.trace := rfl
@[simp] theorem State.close_params : s.close.params = s.params := rfl

@[simp] theorem State.wait_session (i : Instr) : (s.wait i).session = s.session := rfl
@[simp] theorem State.wait_seq (i : Instr) : (s.wait i).seq = s.seq := rfl
@[simp] theorem State.wait_handles (i : Instr) : (s.wait i).handles = s.handles := rfl
@[simp] theorem State.wait_busy (i : Instr) : (s.wait i).busy = s.busy := rfl
@[simp] theorem State.wait_suspended (i : Instr) : (s.wait i).suspended = s.suspended := rfl
@[simp] theorem State.wait_frameBuf (i : Instr) : (s.wait i).frameBuf = s.frameBuf := rfl
@[simp] theorem State.wait_port (i : Instr) : (s.wait i).port = s.port ++ [encode s.params i] := rfl
@[simp] theorem State.wait_inputs (i : Instr) : (s.wait i).inputs = s.inputs := rfl
@[simp] theorem State.wait_turns (i : Instr) : (s.wait i).turns = s.turns := rfl
@[simp] theorem State.wait_trace (i : Instr) : (s.wait i).trace = s.trace := rfl
@[simp] theorem State.wait_params (i : Instr) : (s.wait i).params = s.params := rfl

@[simp] theorem State.callResolve_session (k : Endpoint) (later : List Endpoint) : (s.callResolve k later).session = s.session := rfl
@[simp] theorem State.callResolve_seq (k : Endpoint) (later : List Endpoint) : (s.callResolve k later).seq = s.seq := rfl
@[simp] theorem State.callResolve_handles (k : Endpoint) (later : List Endpoint) : (s.callResolve k later).handles = s.handles := rfl
@[simp] theorem State.callResolve_busy (k : Endpoint) (later : List Endpoint) : (s.callResolve k later).busy = s.busy := rfl
@[simp] theorem State.callResolve_suspended (k : Endpoint) (later : List Endpoint) : (s.callResolve k later).suspended = some (.resolving k later) := rfl
@[simp] theorem State.callResolve_frameBuf (k : Endpoint) (later : List Endpoint) : (s.callResolve k later).frameBuf = s.frameBuf := rfl
@[simp] theorem State.callResolve_port (k : Endpoint) (later : List Endpoint) : (s.callResolve k later).port = s.port := rfl
@[simp] theorem State.callResolve_inputs (k : Endpoint) (later : List Endpoint) : (s.callResolve k later).inputs = s.inputs := rfl
@[simp] theorem State.callResolve_turns (k : Endpoint) (later : List Endpoint) : (s.callResolve k later).turns = s.turns := rfl
@[simp] theorem State.callResolve_trace (k : Endpoint) (later : List Endpoint) : (s.callResolve k later).trace = .resolve k.fragment :: s.trace := rfl
@[simp] theorem State.callResolve_params (k : Endpoint) (later : List Endpoint) : (s.callResolve k later).params = s.params := rfl

@[simp] theorem State.stage_session (point : Suspended) (v : Bytes) : (s.stage point v).session = s.session := rfl
@[simp] theorem State.stage_seq (point : Suspended) (v : Bytes) : (s.stage point v).seq = s.seq := rfl
@[simp] theorem State.stage_handles (point : Suspended) (v : Bytes) : (s.stage point v).handles = s.handles := rfl
@[simp] theorem State.stage_busy (point : Suspended) (v : Bytes) : (s.stage point v).busy = s.busy := rfl
@[simp] theorem State.stage_suspended (point : Suspended) (v : Bytes) : (s.stage point v).suspended = some point := rfl
@[simp] theorem State.stage_frameBuf (point : Suspended) (v : Bytes) : (s.stage point v).frameBuf = some v := rfl
@[simp] theorem State.stage_port (point : Suspended) (v : Bytes) : (s.stage point v).port = s.port := rfl
@[simp] theorem State.stage_inputs (point : Suspended) (v : Bytes) : (s.stage point v).inputs = s.inputs := rfl
@[simp] theorem State.stage_turns (point : Suspended) (v : Bytes) : (s.stage point v).turns = s.turns := rfl
@[simp] theorem State.stage_trace (point : Suspended) (v : Bytes) : (s.stage point v).trace = s.trace := rfl
@[simp] theorem State.stage_params (point : Suspended) (v : Bytes) : (s.stage point v).params = s.params := rfl

@[simp] theorem State.stageHandshake_session (w : HandshakeString) : (s.stageHandshake w).session = s.session := rfl
@[simp] theorem State.stageHandshake_seq (w : HandshakeString) : (s.stageHandshake w).seq = s.seq := rfl
@[simp] theorem State.stageHandshake_handles (w : HandshakeString) : (s.stageHandshake w).handles = s.handles := rfl
@[simp] theorem State.stageHandshake_busy (w : HandshakeString) : (s.stageHandshake w).busy = s.busy := rfl
@[simp] theorem State.stageHandshake_suspended (w : HandshakeString) : (s.stageHandshake w).suspended = some (.handshake w) := rfl
@[simp] theorem State.stageHandshake_frameBuf (w : HandshakeString) : (s.stageHandshake w).frameBuf = some (w.bytes s.params) := rfl
@[simp] theorem State.stageHandshake_port (w : HandshakeString) : (s.stageHandshake w).port = s.port := rfl
@[simp] theorem State.stageHandshake_inputs (w : HandshakeString) : (s.stageHandshake w).inputs = s.inputs := rfl
@[simp] theorem State.stageHandshake_turns (w : HandshakeString) : (s.stageHandshake w).turns = s.turns := rfl
@[simp] theorem State.stageHandshake_trace (w : HandshakeString) : (s.stageHandshake w).trace = s.trace := rfl
@[simp] theorem State.stageHandshake_params (w : HandshakeString) : (s.stageHandshake w).params = s.params := rfl

@[simp] theorem State.abort_session (r : Result) : (s.abort r).session = .closed := by
  unfold State.abort; split <;> rfl
@[simp] theorem State.abort_seq (r : Result) : (s.abort r).seq = s.seq := by
  unfold State.abort; split <;> rfl
@[simp] theorem State.abort_handles (r : Result) : (s.abort r).handles = Handles.unresolved := by
  unfold State.abort; split <;> rfl
@[simp] theorem State.abort_busy (r : Result) : (s.abort r).busy = false := by
  unfold State.abort; split <;> rfl
@[simp] theorem State.abort_suspended (r : Result) : (s.abort r).suspended = none := by
  unfold State.abort; split <;> rfl
@[simp] theorem State.abort_frameBuf (r : Result) : (s.abort r).frameBuf = s.frameBuf := by
  unfold State.abort; split <;> rfl
@[simp] theorem State.abort_port (r : Result) : (s.abort r).port = s.port := by
  unfold State.abort; split <;> rfl
@[simp] theorem State.abort_inputs (r : Result) : (s.abort r).inputs = s.inputs := by
  unfold State.abort; split <;> rfl
@[simp] theorem State.abort_turns (r : Result) : (s.abort r).turns = s.turns := by
  unfold State.abort; split <;> rfl
@[simp] theorem State.abort_params (r : Result) : (s.abort r).params = s.params := by
  unfold State.abort; split <;> rfl

/-- What an abort presents: the release only where the parameter asks for it (R161, D14). -/
@[simp] theorem State.abort_trace (r : Result) :
    (s.abort r).trace = .result r :: (if s.params.abortReleasesTransport then .release :: s.trace else s.trace) := by
  unfold State.abort; split <;> rfl

/-! ### Handles -/

/-- Reading back the handle just stored. -/
@[simp] theorem Handles.get_set_same (hs : Handles) (k : Endpoint) (h : Handle) : (hs.set k h).get k = some h := by
  cases k <;> rfl

/-- Storing one handle leaves the others. -/
theorem Handles.get_set_other (hs : Handles) {k k' : Endpoint} (h : Handle) (ne : k' ≠ k) :
    (hs.set k h).get k' = hs.get k' := by
  cases k <;> cases k' <;> first | rfl | exact absurd rfl ne

/-- `get` of NONE for all. -/
@[simp] theorem Handles.get_unresolved (k : Endpoint) : Handles.unresolved.get k = none := by cases k <;> rfl

/-! ### Acceptance -/

/-- An accepting block has BUSY clear. -/
theorem State.not_busy_of_accepts {s : State} (h : s.accepts = true) : s.busy = false := by
  simp only [State.accepts, Bool.and_eq_true, Bool.not_eq_eq_eq_not, Bool.not_true] at h
  exact h.1

/-- An accepting block is not in HANDSHAKING. -/
theorem State.not_handshaking_of_accepts {s : State} (h : s.accepts = true) : s.session ≠ .handshaking := by
  simp only [State.accepts, Bool.and_eq_true, decide_eq_true_eq] at h
  exact h.2

/-- Outside HANDSHAKING, acceptance is BUSY clear (R160). -/
theorem State.accepts_of_idle {s : State} (hb : s.busy = false) (hs : s.session ≠ .handshaking) : s.accepts = true := by
  simp [State.accepts, hb, hs]

end Sys2Proof.Machine
end

