-- ==== Sys2Proof/Laws/Ops.lean ====
section
/-! SUPPORT. One lemma for each shared operation that can stop: everything it does when it answers a next state. -/

namespace Sys2Proof.Machine

variable {s t : State}

/-- What a staged string is: its operation is in progress at that point and the frame buffer holds it. -/
theorem State.staged_iff {p : Suspended} {v : Bytes} :
    s.staged p v = true ↔ s.busy = true ∧ s.suspended = some p ∧ s.frameBuf = some v := by
  simp [State.staged, and_assoc]

/-- A hand-over answers a next state exactly for the staged string and a resolved handle; then the buffer is empty and the
write is out. -/
theorem State.charWrite_next {p : Suspended} {k : Endpoint} {v : Bytes} :
    s.charWrite p k v = .next t ↔ s.busy = true ∧ s.suspended = some p ∧ s.frameBuf = some v ∧
      ∃ h, s.handles.get k = some h ∧ t = { s with frameBuf := none, trace := .write h v true :: s.trace } := by
  unfold State.charWrite
  split
  · next hs =>
    rw [State.staged_iff] at hs
    cases hk : s.handles.get k with
    | none => simp
    | some h => simp [hs, State.emit, eq_comm]
  · next hs =>
    rw [State.staged_iff] at hs
    simp only [reduceCtorEq, false_iff]
    rintro ⟨hb, hp, hv, -⟩
    exact hs ⟨hb, hp, hv⟩

/-- A hand-over of a string that is not staged is refused. -/
theorem State.charWrite_refused {p : Suspended} {k : Endpoint} {v : Bytes} (h : s.staged p v = false) :
    s.charWrite p k v = .refused .wireOutOfPlace := by
  simp [State.charWrite, h]

/-- A subscription answers a next state exactly when `HANDLE[notify]` is resolved. -/
theorem State.subscribe_next :
    s.subscribe = .next t ↔ ∃ h, s.handles.notify = some h ∧ t = s.emit (.subscribe h) := by
  unfold State.subscribe
  cases s.handles.notify <;> simp [eq_comm]

/-- After the last handle: HS-A is staged, after the subscription where the parameter puts it there. -/
theorem State.resolvedAll_next (h : s.resolvedAll = .next t) :
    (s.params.subscribePoint = .afterResolve ∧ ∃ hn, s.handles.notify = some hn ∧
        t = (s.emit (.subscribe hn)).stageHandshake .hsA)
      ∨ (s.params.subscribePoint ≠ .afterResolve ∧ t = s.stageHandshake .hsA) := by
  unfold State.resolvedAll at h
  split at h
  · next hp =>
    split at h
    · next s' hs =>
      obtain ⟨hn, hh, rfl⟩ := State.subscribe_next.1 hs
      exact .inl ⟨hp, hn, hh, (Host.Outcome.next.inj h).symm⟩
    · cases h
    · cases h
  · next hp => exact .inr ⟨by simp [hp], (Host.Outcome.next.inj h).symm⟩
  · next hp => exact .inr ⟨by simp [hp], (Host.Outcome.next.inj h).symm⟩

/-- The end of CONNECT: READY and `Ok`, after the subscription where the parameter puts it there. -/
theorem State.handshakeDone_next (h : s.handshakeDone = .next t) :
    (s.params.subscribePoint = .afterHandshake ∧ ∃ hn, s.handles.notify = some hn ∧
        t = { s with session := .ready, busy := false, suspended := none
                     trace := .result .ok :: .subscribe hn :: s.trace })
      ∨ (s.params.subscribePoint ≠ .afterHandshake ∧
        t = { s with session := .ready, busy := false, suspended := none, trace := .result .ok :: s.trace }) := by
  unfold State.handshakeDone at h
  dsimp only at h
  split at h
  · next hp =>
    split at h
    · next s' hs =>
      obtain ⟨hn, hh, rfl⟩ := State.subscribe_next.1 hs
      exact .inl ⟨hp, hn, hh, (Host.Outcome.next.inj h).symm⟩
    · cases h
    · cases h
  · next hp => exact .inr ⟨by simp [hp], (Host.Outcome.next.inj h).symm⟩
  · next hp => exact .inr ⟨by simp [hp], (Host.Outcome.next.inj h).symm⟩

/-- What the block waits for: BUSY, nothing staged, and the operation in progress. -/
theorem State.awaiting_eq_some {p : Suspended} :
    s.awaiting = some p ↔ s.busy = true ∧ s.frameBuf = none ∧ s.suspended = some p := by
  unfold State.awaiting
  cases s.busy <;> cases s.frameBuf <;> simp

/-- An answer to a `Resolve` answers a next state only where one is outstanding. -/
theorem State.onResolved_next {answer : ResolveAnswer} (h : s.onResolved answer = .next t) :
    ∃ k later, s.awaiting = some (.resolving k later) ∧
      ((∃ hk, answer = .handle hk ∧ (s.setHandle k hk).resolveNext later = .next t)
        ∨ (answer = .notFound ∧ t = s.abort .characteristicNotFound)) := by
  unfold State.onResolved at h
  split at h
  · next k later hw =>
    refine ⟨k, later, hw, ?_⟩
    cases answer with
    | handle hk => exact .inl ⟨hk, rfl, h⟩
    | notFound => exact .inr ⟨rfl, (Host.Outcome.next.inj h).symm⟩
  all_goals cases h

/-- An answer to a `CharWrite` answers a next state only where one is outstanding. -/
theorem State.onWritten_next {answer : WriteAnswer} (h : s.onWritten answer = .next t) :
    (∃ w, s.awaiting = some (.handshake w) ∧
        ((answer = .ok ∧ s.handshakeNext w = .next t) ∨ ∃ kind, answer = .err kind ∧ t = s.abort .handshakeFailed))
      ∨ (s.awaiting = some .command ∧
        ((answer = .ok ∧ t = s.finish .ok) ∨ ∃ kind, answer = .err kind ∧ t = s.finish (.transportError kind))) := by
  unfold State.onWritten at h
  split at h
  · next w hw =>
    refine .inl ⟨w, hw, ?_⟩
    cases answer with
    | ok => exact .inl ⟨rfl, h⟩
    | err kind => exact .inr ⟨kind, rfl, (Host.Outcome.next.inj h).symm⟩
  · next hw =>
    refine .inr ⟨hw, ?_⟩
    cases answer with
    | ok => exact .inl ⟨rfl, (Host.Outcome.next.inj h).symm⟩
    | err kind => exact .inr ⟨kind, rfl, (Host.Outcome.next.inj h).symm⟩
  all_goals cases h

end Sys2Proof.Machine
end

