-- ==== Sys2Proof/Laws/Step.lean ====
section
/-! SUPPORT. What one step can do, said once: `Move s t` has one constructor for each atomic step of the block, and a step
that answers a next state is one of them. Claims about every step are case analyses on it. -/

namespace Sys2Proof.Machine

/-- The place of a wire string: the point of its operation and the endpoint it is written to. -/
inductive Place (p : Params) : Suspended → Endpoint → Bytes → Prop where
  | frame (r a : Bool) (did cid seq len : Byte) (payload : Bytes) (c : Byte) :
      Place p .command .roll (encode p (.frame r a did cid seq len payload c))
  | handshake (w : HandshakeString) : Place p (.handshake w) w.endpoint (w.bytes p)

/-- One atomic step of the machine. -/
inductive Move (s : State) : State → Prop where
  /-- A staged string is handed over. -/
  | handOver {p k v h} : Place s.params p k v → s.busy = true → s.suspended = some p → s.frameBuf = some v →
      s.handles.get k = some h → Move s { s with frameBuf := none, trace := .write h v true :: s.trace }
  /-- A request is answered at once and writes no state. -/
  | reply {bs ps i r} : s.frameBuf = none → s.accepts = true → s.port = bs :: ps → decodeRequest s.params bs = .ok i →
      Move s ({ s with port := ps }.reply r)
  /-- CONNECT is accepted in IDLE. -/
  | connect {bs ps t} : s.frameBuf = none → s.accepts = true → s.port = bs :: ps → decodeRequest s.params bs = .ok .connect →
      s.session = .idle →
      State.resolveNext { s with port := ps, busy := true, session := .handshaking, seq := Config.seqReset }
        s.params.resolveOrder = .next t → Move s t
  /-- CMD is accepted in READY and its payload is oversized. -/
  | cmdOversized {bs ps did cid payload a r} : s.frameBuf = none → s.accepts = true → s.port = bs :: ps →
      decodeRequest s.params bs = .ok (.cmd did cid payload a r) → s.session = .ready →
      encodeFrame { did, cid, payload, a, r, seq := s.seq } = none →
      Move s ({ s with port := ps, busy := true, seq := seqNext s.seq }.finish .oversizedPayload)
  /-- CMD is accepted in READY and its frame is staged. -/
  | cmdStaged {bs ps did cid payload a r f} : s.frameBuf = none → s.accepts = true → s.port = bs :: ps →
      decodeRequest s.params bs = .ok (.cmd did cid payload a r) → s.session = .ready →
      encodeFrame { did, cid, payload, a, r, seq := s.seq } = some f →
      Move s ({ s with port := ps, busy := true, seq := seqNext s.seq }.stage .command f)
  /-- DISCONNECT is accepted in READY. -/
  | disconnect {bs ps} : s.frameBuf = none → s.accepts = true → s.port = bs :: ps →
      decodeRequest s.params bs = .ok .disconnect → s.session = .ready →
      Move s (({ s with port := ps }.emit .release).close.reply .ok)
  /-- A notification is delivered. -/
  | deliver {bs rest h d} : s.frameBuf = none → s.inputs = .event bs :: rest → decodeEvent bs = .ok (.notify h d) →
      s.session = .handshaking ∨ s.session = .ready → Move s ({ s with inputs := rest }.emit (.deliver h d))
  /-- A notification is dropped. -/
  | drop {bs rest h d} : s.frameBuf = none → s.inputs = .event bs :: rest → decodeEvent bs = .ok (.notify h d) →
      s.session = .idle ∨ s.session = .closed → Move s { s with inputs := rest }
  /-- Nothing is left to happen. -/
  | still : s.frameBuf = none → s.inputs = [] → Move s s
  /-- A request is presented. -/
  | present {bs rest} : s.frameBuf = none → s.inputs = .request bs :: rest →
      Move s { s with inputs := rest, port := s.port ++ [bs] }
  /-- The outstanding `Resolve` gave a handle. -/
  | handle {k later h rest t} : s.inputs = .resolved (.handle h) :: rest → s.awaiting = some (.resolving k later) →
      State.resolveNext (State.setHandle { s with inputs := rest } k h) later = .next t → Move s t
  /-- The outstanding `Resolve` found nothing. -/
  | notFound {k later rest} : s.inputs = .resolved .notFound :: rest → s.awaiting = some (.resolving k later) →
      Move s ({ s with inputs := rest }.abort .characteristicNotFound)
  /-- A handshake write was acknowledged. -/
  | acknowledged {w rest t} : s.inputs = .written .ok :: rest → s.awaiting = some (.handshake w) →
      State.handshakeNext { s with inputs := rest } w = .next t → Move s t
  /-- A handshake write failed. -/
  | handshakeErr {w kind rest} : s.inputs = .written (.err kind) :: rest → s.awaiting = some (.handshake w) →
      Move s ({ s with inputs := rest }.abort .handshakeFailed)
  /-- The write of a frame was answered. -/
  | cmdDone {answer rest r} : s.inputs = .written answer :: rest → s.awaiting = some .command →
      Move s ({ s with inputs := rest }.finish r)
  /-- The instance is reset. -/
  | reset {rest} : s.inputs = .reset :: rest → s.frameBuf = none → s.busy = false →
      Move s { State.reset with port := s.port, inputs := rest, turns := s.turns, params := s.params }

variable {s t : State}

/-- A wire instruction that answers a next state is the hand-over of the staged string. -/
theorem move_of_wire {i : Instr} {k : Endpoint} (hw : i.channel = .wire k) (h : exec i s = .next t) : Move s t := by
  cases i <;> try cases hw
  case frame r a did cid seq len payload c =>
    obtain ⟨hb, hp, hv, k, hk, rfl⟩ := State.charWrite_next.1 h
    exact .handOver (.frame r a did cid seq len payload c) hb hp hv hk
  case hsA =>
    obtain ⟨hb, hp, hv, k, hk, rfl⟩ := State.charWrite_next.1 h
    exact .handOver (.handshake .hsA) hb hp hv hk
  case hsT =>
    obtain ⟨hb, hp, hv, k, hk, rfl⟩ := State.charWrite_next.1 h
    exact .handOver (.handshake .hsT) hb hp hv hk
  case hsW =>
    obtain ⟨hb, hp, hv, k, hk, rfl⟩ := State.charWrite_next.1 h
    exact .handOver (.handshake .hsW) hb hp hv hk

/-- A request accepted from the port that answers a next state is one of the moves of a request. -/
theorem move_of_request {bs : Bytes} {ps : List Bytes} {i : Instr} (hf : s.frameBuf = none) (ha : s.accepts = true)
    (hport : s.port = bs :: ps) (hd : decodeRequest s.params bs = .ok i) (h : exec i { s with port := ps } = .next t) :
    Move s t := by
  have ha' : State.accepts { s with port := ps } = true := ha
  have hns : s.session ≠ .handshaking := State.not_handshaking_of_accepts ha
  have hch := channel_of_decodeRequest hd
  cases i <;> try contradiction
  case connect =>
    simp only [exec, execConnect, ha', if_true] at h
    split at h
    · cases h; exact .reply hf ha hport hd
    · cases h; exact .reply hf ha hport hd
    · next hs => exact .connect hf ha hport hd hs h
    · next hs => exact absurd hs hns
  case cmd did cid payload a r =>
    simp only [exec, execCmd, ha', if_true] at h
    split at h
    · cases h; exact .reply hf ha hport hd
    · cases h; exact .reply hf ha hport hd
    · next hs =>
      split at h
      · next he => cases h; exact .cmdOversized hf ha hport hd hs he
      · next he => cases h; exact .cmdStaged hf ha hport hd hs he
    · next hs => exact absurd hs hns
  case disconnect =>
    simp only [exec, execDisconnect, ha', if_true] at h
    split at h
    · cases h; exact .reply hf ha hport hd
    · cases h; exact .reply hf ha hport hd
    · next hs => cases h; exact .disconnect hf ha hport hd hs
    · next hs => exact absurd hs hns
  case encode =>
    simp only [exec, execEncode, ha', if_true] at h
    cases h; exact .reply hf ha hport hd
  case decode =>
    simp only [exec, execDecode, ha', if_true] at h
    cases h; exact .reply hf ha hport hd
  case reserved5 =>
    simp only [exec, execReserved5, State.reservedOp, ha', if_true] at h
    cases h; exact .reply hf ha hport hd
  case reserved6 =>
    simp only [exec, execReserved6, State.reservedOp, ha', if_true] at h
    cases h; exact .reply hf ha hport hd
  case reserved7 =>
    simp only [exec, execReserved7, State.reservedOp, ha', if_true] at h
    cases h; exact .reply hf ha hport hd

/-- What another agent does next is one of the moves of an input. -/
theorem move_of_input (hf : s.frameBuf = none) (h : s.takeInput = .next t) : Move s t := by
  unfold State.takeInput at h
  split at h
  · next hi => cases h; exact .still hf hi
  · next hi => cases h; exact .present hf hi
  · next bs rest hi =>
    unfold State.runWord at h
    split at h
    · next i hd =>
      obtain ⟨k, d, rfl⟩ := notify_of_decodeEvent hd
      simp only [exec, execNotify] at h
      split at h
      · next hs => cases h; exact .deliver hf hi hd (.inl hs)
      · next hs => cases h; exact .deliver hf hi hd (.inr hs)
      · next hs => cases h; exact .drop hf hi hd (.inl hs)
      · next hs => cases h; exact .drop hf hi hd (.inr hs)
    · cases h
  · next answer rest hi =>
    obtain ⟨k, later, hw, ⟨hk, rfl, h'⟩ | ⟨rfl, rfl⟩⟩ := State.onResolved_next h
    · exact .handle hi hw h'
    · exact .notFound hi hw
  · next answer rest hi =>
    obtain ⟨w, hw, ⟨rfl, h'⟩ | ⟨kind, rfl, rfl⟩⟩ | ⟨hw, ⟨rfl, rfl⟩ | ⟨kind, rfl, rfl⟩⟩ := State.onWritten_next h
    · exact .acknowledged hi hw h'
    · exact .handshakeErr hi hw
    · exact .cmdDone hi hw
    · exact .cmdDone hi hw
  · next rest hi =>
    unfold State.onReset at h
    split at h
    · cases h
    · next hb => cases h; exact .reset hi hf (by simpa using hb)

/-- A step that answers a next state is one of the moves, from the state or from the state with a draw used up (R200). -/
theorem move_of_step (h : step s = .next t) : ∃ d, Move { s with turns := d } t := by
  have keep : Move s t → ∃ d, Move { s with turns := d } t := fun m => ⟨s.turns, m⟩
  unfold step at h
  split at h
  · split at h
    · unfold State.runWord at h
      split at h
      · next hd => exact keep (move_of_wire (channel_of_decodeWire hd) h)
      · cases h
    · cases h
  · next hf =>
    unfold State.serve at h
    split at h
    · next hport =>
      split at h
      · next ha =>
        obtain ⟨d, hd⟩ : ∃ d, s.drawn = { s with turns := d } := by
          unfold State.drawn; split
          · exact ⟨_, rfl⟩
          · exact ⟨s.turns, rfl⟩
        rw [hd] at h
        refine ⟨d, ?_⟩
        split at h
        · exact move_of_input hf h
        · unfold State.runWord at h
          split at h
          · next hdec => exact move_of_request (s := { s with turns := d }) hf ha hport hdec h
          · cases h
      · exact keep (move_of_input hf h)
    · exact keep (move_of_input hf h)

end Sys2Proof.Machine
end

