-- ==== Sys2Proof/Tests/Slice0.lean ====
section
/-! SUPPORT. Tests whose expected values are the spec's (95_test_vectors.md and the worked examples of the rules), the
refusals of WellFormed, and a witness of the hypotheses of every statement that has some. -/

namespace Sys2Proof.Tests

open Sys2Proof Sys2Proof.Machine

/-- A payload of `n` zero bytes. -/
def zeros (n : Nat) : Bytes := List.replicate n 0

theorem zeros_length (n : Nat) : (zeros n).length = n := List.length_replicate

/-! ### WellFormed: an ill-formed term for each check -/

theorem test_wf_cmd_beyondPort : (Instr.cmd 0 0 [1, 2, 3] true true).illFormed 2 = some .beyondPort := by decide

theorem test_wf_encode_beyondPort : (Instr.encode 0 0 [1, 2, 3] true true 0).illFormed 2 = some .beyondPort := by decide

theorem test_wf_frame_tooLong :
    (Instr.frame true true 0 0 0 0 (zeros 255) 0).illFormed 255 = some .frameTooLong := by
  simp [Instr.illFormed, Config.lmax, zeros_length]

theorem test_wf_frame_wrongLength : (Instr.frame false false 0 0 0 0 [] 0xFF).illFormed 255 = some .wrongLength := by
  decide

theorem test_wf_frame_wrongChecksum : (Instr.frame false false 0 0 0 1 [] 0xFF).illFormed 255 = some .wrongChecksum := by
  decide

theorem test_wf_frame_right : (Instr.frame false false 0 0 0 1 [] 0xFE).wf 255 = true := by decide

theorem test_wf_params_order : ({ Config.defaults with resolveOrder := [.antidos, .wakecpu] } : Params).wf = false := by
  decide

theorem test_wf_params_txpower : ({ Config.defaults with txpowerBytes := [] } : Params).wf = false := by decide

theorem test_wf_params_opCodes : ({ Config.defaults with opCodes := [.connect, .cmd] } : Params).wf = false := by decide

theorem test_wf_params_resultCodes :
    ({ Config.defaults with resultCodes := { Config.resultCodes with illegalOp := 0 } } : Params).wf = false := by decide

theorem test_wf_params_port : ({ Config.defaults with portLmax := 254 } : Params).wf = false := by decide

/-! ### Decoding: words written out from the spec's encodings -/

/-- Another `OP_CODE`: CONNECT and DISCONNECT exchanged. -/
def opsExchanged : Params :=
  { Config.defaults with
    opCodes := [.disconnect, .cmd, .connect, .encode, .decode, .reserved5, .reserved6, .reserved7] }

/-- R95, R94: `CMD 2, 0x20, [254,10,2,0], 1, 1`, op code 1. -/
theorem test_decode_cmd :
    decodeRequest Config.defaults [0b00000001, 0x02, 0x20, 1, 1, 4, 0xFE, 0x0A, 0x02, 0x00]
      = .ok (.cmdDefault 0x02 0x20 [0xFE, 0x0A, 0x02, 0x00]) := by decide

/-- R95, R94: `ENCODE 0xAB, 0xCD, [FF], 0, 1, 0x10`, op code 3. -/
theorem test_decode_encode :
    decodeRequest Config.defaults [0b00000011, 0xAB, 0xCD, 0, 1, 0x10, 1, 0xFF]
      = .ok (.encode 0xAB 0xCD [0xFF] false true 0x10) := by decide

/-- R95: `DECODE` of two bytes, op code 4. -/
theorem test_decode_decode :
    decodeRequest Config.defaults [0b00000100, 2, 0xFF, 0xFC] = .ok (.decode [0xFF, 0xFC]) := by decide

/-- R8, D2: with the op codes of CONNECT and DISCONNECT exchanged, code 2 is CONNECT, written and read. -/
theorem test_opCode_exchanged :
    decodeRequest opsExchanged [2] = .ok .connect ∧ encode opsExchanged .disconnect = [0] ∧ opsExchanged.wf = true := by
  decide

/-- R95: the session operations and the reserved codes. -/
theorem test_decode_plain :
    (decodeRequest Config.defaults [0b00000000], decodeRequest Config.defaults [0b00000010])
        = (.ok .connect, .ok .disconnect)
      ∧ (decodeRequest Config.defaults [0b00000101], decodeRequest Config.defaults [0b00000110],
          decodeRequest Config.defaults [0b00000111])
        = (.ok .reserved5, .ok .reserved6, .ok .reserved7) := by decide

/-- R98: `NOTIFY 300, [0x75, 0x3E, 0x20]`; the handle 300 takes a continuation byte. -/
theorem test_decode_notify : decodeEvent [0xFF, 45, 3, 0x75, 0x3E, 0x20] = .ok (.notify 300 [0x75, 0x3E, 0x20]) := by
  decide

/-- R90, R91, R92: the three handshake strings bit by bit. -/
theorem test_decode_handshake :
    decodeWire Config.defaults .antidos [0b00110000, 0b00110001, 0b00110001, 0b01101001, 0b00110011] = .ok .hsA
      ∧ decodeWire Config.defaults .txpower [0b00000000, 0b00000111] = .ok .hsT
      ∧ decodeWire Config.defaults .wakecpu [0b00000001] = .ok .hsW := by decide

/-- R81: `11111111 111111ra dddddddd cccccccc ssssssss llllllll` with `r = 1`, `a = 0` (the row of 2.5 with `FE`). -/
theorem test_decode_frame :
    decodeWire Config.defaults .roll [0b11111111, 0b11111110, 0xAB, 0xCD, 0x10, 0x04, 0xFF, 0xFF, 0xFF, 0x76]
      = .ok (.frame true false 0xAB 0xCD 0x10 0x04 [0xFF, 0xFF, 0xFF] 0x76) := by decide

/-- R97: bad start, bad sync bits, and requests cut short are rejected by name. -/
theorem test_decode_rejects :
    decodeWire Config.defaults .roll [0xFE, 0xFF, 2, 0x20, 0, 1, 0] = .error .unknownWire
      ∧ decodeWire Config.defaults .roll [0xFF, 0x7F, 2, 0x20, 0, 1, 0] = .error .badSync
      ∧ decodeWire Config.defaults .roll [0xFF, 0xFF] = .error .shortFrame
      ∧ decodeRequest Config.defaults [1, 2] = .error .truncated
      ∧ decodeRequest Config.defaults [] = .error .noOpCode ∧ decodeEvent [3, 2, 0] = .error .truncated := by decide

/-- The table's two-byte and five-byte rows, byte 0 in the high half. -/
theorem test_table_wire :
    decodeTableWord 16 0xFFFC = some (.frame false false 0 0 0 0 [] 0) ∧ decodeTableWord 16 0x0007 = some .hsT
      ∧ decodeTableWord 40 0x3031316933 = some .hsA := by decide

/-! ### Datapath vectors (95_test_vectors.md 2.1 to 2.4) -/

/-- 2.3, the rows whose natural sum is 305, 255, 256, 1161 and 514. -/
theorem test_chk :
    chk 0x02 0x20 0x00 0x05 [0xFE, 0x0A, 0x02, 0x00] = 0xCE ∧ chk 0x7F 0x7F 0x00 0x01 [] = 0x00
      ∧ chk 0x80 0x7F 0x00 0x01 [] = 0xFF ∧ chk 0xAB 0xCD 0x10 0x04 [0xFF, 0xFF, 0xFF] = 0x76
      ∧ chk 0x01 0x01 0xFF 0x02 [0xFF] = 0xFD := by decide

/-- 2.2: the length byte at its bounds. -/
theorem test_dlen : dlen 0 = some 1 ∧ dlen 254 = some 0xFF ∧ dlen 255 = none ∧ dlen 256 = none := by decide

/-- 2.4: the wrap. -/
theorem test_seqNext : seqNext 0x7F = 0x80 ∧ seqNext 0xFF = 0x00 := by decide

/-- R126: the source's frame passes, with its last byte changed it does not. -/
theorem test_chkOk :
    chkOk [0xFF, 0xFF, 0x02, 0x20, 0x00, 0x05, 0xFE, 0x0A, 0x02, 0x00, 0xCE] = true
      ∧ chkOk [0xFF, 0xFF, 0x02, 0x20, 0x00, 0x05, 0xFE, 0x0A, 0x02, 0x00, 0xCF] = false := by decide

/-- 2.5, three rows: all flags, no payload at the top values, and flags `a = 1, r = 0`. -/
theorem test_encodeFrame :
    encodeFrame ⟨0x02, 0x20, [0xFE, 0x0A, 0x02, 0x00], true, true, 0⟩
        = some [0xFF, 0xFF, 0x02, 0x20, 0x00, 0x05, 0xFE, 0x0A, 0x02, 0x00, 0xCE]
      ∧ encodeFrame ⟨0xFF, 0xFF, [], true, true, 0xFF⟩ = some [0xFF, 0xFF, 0xFF, 0xFF, 0xFF, 0x01, 0x01]
      ∧ encodeFrame ⟨0x01, 0x01, [0xFF], true, false, 0xFF⟩ = some [0xFF, 0xFD, 0x01, 0x01, 0xFF, 0x02, 0xFF, 0xFD] := by
  decide

/-- 2.6, the rejections, one row for each check. -/
theorem test_decodeFrame_rejects :
    decodeFrame [0xFF, 0xFF, 0x02, 0x20, 0x00, 0x01] = .rejected .tooShort
      ∧ decodeFrame [0xFE, 0x7F, 0x02, 0x20, 0x00, 0x06, 0xFE, 0x0A, 0x02, 0x00, 0xCF] = .rejected .badStart
      ∧ decodeFrame [0xFF, 0x03, 0x02, 0x20, 0x00, 0x05, 0xFE, 0x0A, 0x02, 0x00, 0xCE] = .rejected .badSync
      ∧ decodeFrame [0xFF, 0xFC, 0x00, 0x00, 0x00, 0x00, 0xFF] = .rejected .badLength
      ∧ decodeFrame [0xFF, 0xFF, 0x02, 0x20, 0x00, 0x05, 0x7E, 0x0A, 0x02, 0x00, 0xCE] = .rejected .badChecksum := by
  decide

/-- 2.6: two payload bytes swapped are not detected. -/
theorem test_decodeFrame_swap :
    decodeFrame [0xFF, 0xFF, 0x02, 0x20, 0x00, 0x05, 0x0A, 0xFE, 0x02, 0x00, 0xCE]
      = .accepted ⟨0x02, 0x20, [0x0A, 0xFE, 0x02, 0x00], true, true, 0⟩ := by decide

/-! ### Small states -/

/-- The next state, if there is one. -/
def nextOf : Outcome → Option State
  | .next s => some s
  | .fault _ | .refused _ => none

/-- All five handles held. -/
def held : Handles := ⟨some 1, some 2, some 3, some 4, some 5⟩

/-- READY with sequence number `q`. -/
def ready (q : Byte) : State := { State.reset with session := .ready, seq := q, handles := held }

/-- CLOSED. -/
def closed : State := { State.reset with session := .closed }

/-- The handles held but those of the endpoints `missing`. -/
def heldBut (missing : List Endpoint) : Handles :=
  { antidos := if .antidos ∈ missing then none else held.antidos
    wakecpu := if .wakecpu ∈ missing then none else held.wakecpu
    txpower := if .txpower ∈ missing then none else held.txpower
    roll := if .roll ∈ missing then none else held.roll
    notify := if .notify ∈ missing then none else held.notify }

/-- CONNECT waiting for the handle of `k`, the endpoints before it resolved. -/
def resolving (k : Endpoint) (later : List Endpoint) (answer : ResolveAnswer) : State :=
  { State.reset with
    session := .handshaking, busy := true, suspended := some (.resolving k later), handles := heldBut (k :: later)
    inputs := [.resolved answer] }

/-- The state with another place of the subscription. -/
def subscribing (s : State) (p : SubscribePoint) : State :=
  { s with params := { s.params with subscribePoint := p } }

/-- CONNECT at handshake string `w`, staged. -/
def handshakeStaged (w : HandshakeString) : State :=
  { State.reset with
    session := .handshaking, busy := true, suspended := some (.handshake w), handles := held, frameBuf := some (w.bytes Config.defaults) }

/-- CONNECT waiting for the answer to handshake string `w`. -/
def handshakeOut (w : HandshakeString) (answer : WriteAnswer) : State :=
  { handshakeStaged w with frameBuf := none, inputs := [.written answer] }

/-- The frame of the fifth row of 2.7, `SEQ = 05`. -/
def frame05 : Bytes := [0xFF, 0xFF, 0x02, 0x20, 0x05, 0x04, 0x01, 0x02, 0x03, 0xCE]

/-- CMD with that frame staged. -/
def cmdStaged : State :=
  { ready 6 with busy := true, suspended := some .command, frameBuf := some frame05 }

/-- CMD waiting for the answer to its write. -/
def cmdOut (answer : WriteAnswer) : State := { cmdStaged with frameBuf := none, inputs := [.written answer] }

/-! ### One step of each instruction -/

/-- R161 line 1: the first `Resolve` is that of `antidos`, `2bbd`. -/
theorem test_connect_starts :
    (nextOf (exec .connect State.reset)).map (fun t => (t.session, t.busy, t.trace))
      = some (.handshaking, true, [.resolve 0x2bbd]) := by decide

/-- 2.7 row 3: at `SEQ = FF` the frame carries `FF`, the counter becomes 0. -/
theorem test_cmd_wraps :
    (nextOf (exec (.cmd 0x02 0x20 [254, 10, 2, 0] true true) (ready 0xFF))).map (fun t => (t.seq, t.frameBuf))
      = some (0, some [0xFF, 0xFF, 0x02, 0x20, 0xFF, 0x05, 0xFE, 0x0A, 0x02, 0x00, 0xCF]) := by decide

/-- 2.7 row 4: 255 bytes spend a number and write nothing. -/
theorem test_cmd_oversized :
    (nextOf (exec (.cmd 0 0 (zeros 255) true true) (ready 5))).map (fun t => (t.seq, t.busy, t.frameBuf, t.results))
      = some (6, false, none, [.oversizedPayload]) := by
  simp [exec, execCmd, ready, State.reset, State.accepts, encodeFrame, dlen, Config.lmax, State.finish, State.reply,
    State.emit, nextOf, State.results, seqNext, zeros_length]

/-- 2.7 rows 6 and 7: CLOSED and IDLE. -/
theorem test_cmd_refused :
    (nextOf (exec (.cmd 0 1 [] true true) closed)).map State.results = some [.sessionClosed]
      ∧ (nextOf (exec (.cmd 0 1 [] true true) State.reset)).map State.results = some [.illegalOp] := by decide

/-- R165: `READY, SEQ = 7`; DISCONNECT. -/
theorem test_disconnect :
    (nextOf (exec .disconnect (ready 7))).map (fun t => (t.session, t.seq, t.handles, t.trace))
      = some (.closed, 7, Handles.unresolved, [.result .ok, .release]) := by decide

/-- P3 line 8: ENCODE works in CLOSED. -/
theorem test_encode_closed :
    (nextOf (exec (.encode 0x02 0x20 [1, 2, 3] true true 0x02) closed)).map State.results
      = some [.frame [0xFF, 0xFF, 0x02, 0x20, 0x02, 0x04, 0x01, 0x02, 0x03, 0xD1]] := by decide

/-- 2.6, first `Ok` row. -/
theorem test_decode_served :
    (nextOf (exec (.decode [0xFF, 0xFC, 0, 0, 0, 1, 0xFE]) State.reset)).map State.results
      = some [.operands ⟨0, 0, [], false, false, 0⟩] := by decide

/-- R97: the reserved codes. -/
theorem test_reserved :
    [Instr.reserved5, .reserved6, .reserved7].map (fun i => (nextOf (exec i (ready 1))).map State.results)
      = [some [.illegalOp], some [.illegalOp], some [.illegalOp]] := by decide

/-- P5 line 2: a notification during a command. -/
theorem test_notify_busy :
    (nextOf (exec (.notify 5 [0x75, 0x3E, 0x20]) (cmdOut .ok))).map (fun t => (t.trace, t.busy))
      = some ([.deliver 5 [0x75, 0x3E, 0x20]], true) := by decide

/-- P5 line 4: dropped in CLOSED. -/
theorem test_notify_closed : nextOf (exec (.notify 5 [1]) closed) = some closed := by decide

/-- 2.7 row 5: the staged frame goes to `roll`. -/
theorem test_frame_out : (nextOf (step cmdStaged)).map State.writes = some [(4, frame05, true)] := by decide

/-- V2: each handshake string goes to its endpoint. -/
theorem test_handshake_out :
    [HandshakeString.hsA, .hsT, .hsW].map (fun w => (nextOf (step (handshakeStaged w))).map State.writes)
      = [some [(1, [0x30, 0x31, 0x31, 0x69, 0x33], true)], some [(3, [0x00, 0x07], true)], some [(2, [0x01], true)]] := by
  decide

/-- R91, U1: with another `TXPOWER_BYTES`, "07" in ASCII, the second write has those bytes. -/
theorem test_txpower_parameter :
    let p : Params := { Config.defaults with txpowerBytes := [0x30, 0x37] }
    (nextOf (step { handshakeOut .hsA .ok with params := p })).bind (fun s => (nextOf (step s)).map State.writes)
      = some [(3, [0x30, 0x37], true)] := by decide

/-- 2.7 row 5: the error kind is passed on, the session stays READY. -/
theorem test_cmd_err :
    (nextOf (step (cmdOut (.err .writeTimeout)))).map (fun t => (t.session, t.busy, t.results))
      = some (.ready, false, [.transportError .writeTimeout]) := by decide

/-- R162 row 3: the second handshake write failed. -/
theorem test_handshake_err :
    (nextOf (step (handshakeOut .hsT (.err .connectionLost)))).map (fun t => (t.session, t.handles, t.results))
      = some (.closed, Handles.unresolved, [.handshakeFailed]) := by decide

/-- P4b: `NotFound` for `roll`. -/
theorem test_notFound :
    (nextOf (step (resolving .roll [.notify] .notFound))).map (fun t => (t.session, t.trace))
      = some (.closed, [.result .characteristicNotFound]) := by decide

/-- R161 line 3: after the last handle, the subscription and HS-A. -/
theorem test_last_handle :
    (nextOf (step (resolving .notify [] (.handle 9)))).map (fun t => (t.trace, t.frameBuf))
      = some ([.subscribe 9], some [0x30, 0x31, 0x31, 0x69, 0x33]) := by decide

/-- The words of the opcode table, placed after reset, each run by the very next step. -/
theorem test_table_words_run :
    ([(8, 0), (8, 1), (8, 2), (8, 3), (8, 4), (8, 5), (8, 6), (8, 7), (16, 0xFFFC), (40, 0x3031316933), (16, 0x0007)].map
      fun w => (nextOf (step (State.reset.withFetchWord w.1 w.2))).isSome) = List.replicate 11 true := by decide

/-! ### Witnesses: states and operands that meet the hypotheses of the statements -/

theorem ready_inv : (ready 0xFF).Inv := ⟨by decide, by decide, by decide⟩

theorem closed_inv : closed.Inv := ⟨by decide, by decide, by decide⟩

theorem cmdStaged_inv : cmdStaged.Inv := ⟨by decide, by decide, by decide⟩

theorem handshakeStaged_inv (w : HandshakeString) : (handshakeStaged w).Inv :=
  ⟨rfl, by cases w <;> decide, rfl⟩

theorem handshakeOut_inv (w : HandshakeString) (answer : WriteAnswer) : (handshakeOut w answer).Inv :=
  ⟨rfl, by cases w <;> rfl, rfl⟩

/-- The five places in CONNECT's line 2. -/
theorem resolving_inv (answer : ResolveAnswer) :
    (resolving .antidos [.wakecpu, .txpower, .roll, .notify] answer).Inv
      ∧ (resolving .wakecpu [.txpower, .roll, .notify] answer).Inv ∧ (resolving .txpower [.roll, .notify] answer).Inv
      ∧ (resolving .roll [.notify] answer).Inv ∧ (resolving .notify [] answer).Inv :=
  ⟨⟨rfl, rfl, rfl⟩, ⟨rfl, rfl, rfl⟩, ⟨rfl, rfl, rfl⟩, ⟨rfl, rfl, rfl⟩, ⟨rfl, rfl, rfl⟩⟩

theorem witness_DlenExact : (254 ≤ 254) ∧ (255 ≤ 255) := by decide

theorem witness_ChkAccumulatorAnyOrder : [4, 3, 2, 1, 0].Perm ([0, 1, 2, 3] ++ [4] : Bytes) := by decide

theorem witness_encodeFrame_some : encodeFrame ⟨0, 0, zeros 254, true, true, 0⟩ ≠ none := by
  simp [encodeFrame, dlen, Config.lmax, zeros_length]

theorem witness_encodeFrame_none : encodeFrame ⟨0, 0, zeros 255, true, true, 0⟩ = none := by
  simp [encodeFrame, dlen, Config.lmax, zeros_length]

/-- For the four clauses of ChecksumDetection: a frame of 7 bytes, index 6 (the last), index 1, a permutation of four bytes,
and two changes that cancel. -/
theorem witness_ChecksumDetection :
    (7 ≤ [0xFF, 0xFC, 0, 0, 0, 1, 0xFE].length ∧ chkOk [0xFF, 0xFC, 0, 0, 0, 1, 0xFE] = true
        ∧ byteAt [0xFF, 0xFC, 0, 0, 0, 1, 0xFE] 6 ≠ 0 ∧ byteAt [0xFF, 0xFC, 0, 0, 0, 1, 0xFE] 2 ≠ 1)
      ∧ [1, 2, 3, 4].Perm ([2, 1, 3, 4] : Bytes)
      ∧ (1 + 0xFF : Byte) = byteAt [0xFF, 0xFC, 0, 0, 0, 1, 0xFE] 2 + byteAt [0xFF, 0xFC, 0, 0, 0, 1, 0xFE] 3 := by decide

theorem witness_EncodeDecodeInverse :
    decodeFrame [0xFF, 0xFC, 0, 0, 0, 1, 0xFE] = .accepted ⟨0, 0, [], false, false, 0⟩ := by decide

/-- IDLE, READY and CLOSED accept (EncodeServed, DecodeServed, PureServedInEveryState, IllegalOpChangesNothing,
DisconnectEffect, SessionClosedRefuses, OversizedPayloadEffect). -/
theorem witness_accepting :
    (State.reset.busy = false ∧ State.reset.session = .idle) ∧ ((ready 0).busy = false ∧ (ready 0).session = .ready)
      ∧ (closed.busy = false ∧ closed.session = .closed) ∧ (ready 0).suspended = none
      ∧ (nextOf (exec .disconnect (ready 0))).isSome := by decide

theorem witness_SessionClosedRefuses :
    (nextOf (exec (.encode 0 0 [] true true 0) closed)).isSome ∧ (nextOf (exec (.decode []) closed)).isSome := by decide

theorem witness_ConnectStarts :
    State.reset.busy = false ∧ State.reset.session = .idle
      ∧ State.reset.params.resolveOrder = .antidos :: [.wakecpu, .txpower, .roll, .notify] := by decide

/-- The three clauses of HandleAnswered: a middle handle, the last with the default parameter, the last with another. -/
theorem witness_HandleAnswered :
    (resolving .roll [.notify] (.handle 9)).suspended = some (.resolving .roll [.notify])
      ∧ ((resolving .notify [] (.handle 9)).handles.set .notify 9).notify = some 9
      ∧ (resolving .notify [] (.handle 9)).params.subscribePoint = .afterResolve
      ∧ (subscribing (resolving .notify [] (.handle 9)) .external).params.subscribePoint ≠ .afterResolve
      ∧ (subscribing (resolving .notify [] (.handle 9)) .external).suspended = some (.resolving .notify []) := by decide

theorem witness_NotFoundAborts :
    (resolving .antidos Config.resolveOrder.tail .notFound).Inv
      ∧ (resolving .antidos Config.resolveOrder.tail .notFound).inputs = [.resolved .notFound]
      ∧ (resolving .notify [] .notFound).Inv ∧ (resolving .notify [] .notFound).inputs = [.resolved .notFound] :=
  ⟨(resolving_inv _).1, rfl, (resolving_inv _).2.2.2.2, rfl⟩

/-- The four clauses of HandshakeAcknowledged. -/
theorem witness_HandshakeAcknowledged :
    (∀ w, (handshakeOut w .ok).busy = true ∧ (handshakeOut w .ok).suspended = some (.handshake w)
        ∧ (handshakeOut w .ok).frameBuf = none ∧ (handshakeOut w .ok).inputs = [.written .ok])
      ∧ (handshakeOut .hsW .ok).params.subscribePoint ≠ .afterHandshake
      ∧ (subscribing (handshakeOut .hsW .ok) .afterHandshake).params.subscribePoint = .afterHandshake
      ∧ (subscribing (handshakeOut .hsW .ok) .afterHandshake).handles.notify = some 5 :=
  ⟨fun w => ⟨rfl, rfl, rfl, rfl⟩, by decide, rfl, rfl⟩

theorem witness_HandshakeWriteFails (w : HandshakeString) (kind : ErrKind) :
    (handshakeOut w (.err kind)).Inv ∧ (handshakeOut w (.err kind)).inputs = [.written (.err kind)] :=
  ⟨handshakeOut_inv w _, rfl⟩

/-- The three clauses of HandshakeHandOver. -/
theorem witness_HandshakeHandOver :
    ((handshakeStaged .hsA).frameBuf = some [0x30, 0x31, 0x31, 0x69, 0x33] ∧ (handshakeStaged .hsA).handles.antidos = some 1)
      ∧ ((handshakeStaged .hsT).frameBuf = some [0x00, 0x07] ∧ (handshakeStaged .hsT).handles.txpower = some 3)
      ∧ ((handshakeStaged .hsW).frameBuf = some [0x01] ∧ (handshakeStaged .hsW).handles.wakecpu = some 2) := by decide

theorem witness_FrameHandOver :
    cmdStaged.busy = true ∧ cmdStaged.suspended = some .command
      ∧ cmdStaged.frameBuf = some ([0xFF, (0b111111#6 ++ BitVec.ofBool true) ++ BitVec.ofBool true, 2, 0x20, 5, 4]
        ++ [1, 2, 3] ++ [0xCE]) ∧ cmdStaged.handles.roll = some 4 := by decide

/-- WireOnlyInPlace: a string that is not staged, a block that is not busy, and hand-overs that answer. -/
theorem witness_WireOnlyInPlace :
    cmdStaged.frameBuf ≠ some (encode Config.defaults .hsA) ∧ (ready 0).busy = false
      ∧ (nextOf (exec .hsA (handshakeStaged .hsA))).isSome
      ∧ (nextOf (exec (.frame true true 2 0x20 5 4 [1, 2, 3] 0xCE) cmdStaged)).isSome := by decide

theorem witness_CmdFrames :
    (ready 0).busy = false ∧ (ready 0).session = .ready ∧ (zeros 254).length ≤ 254 :=
  ⟨rfl, rfl, by simp [zeros_length]⟩

theorem witness_OversizedPayloadEffect :
    (ready 0).busy = false ∧ (ready 0).suspended = none ∧ 255 ≤ (zeros 255).length :=
  ⟨rfl, rfl, by simp [zeros_length]⟩

theorem witness_CmdAnswered (answer : WriteAnswer) :
    (cmdOut answer).busy = true ∧ (cmdOut answer).suspended = some .command ∧ (cmdOut answer).frameBuf = none
      ∧ (cmdOut answer).inputs = [.written answer] := ⟨rfl, rfl, rfl, rfl⟩

theorem witness_NotifyEffect :
    (cmdOut .ok).session = .ready ∧ (handshakeStaged .hsA).session = .handshaking ∧ State.reset.session = .idle
      ∧ closed.session = .closed := by decide

/-- ConnectOutcomes: IDLE with CONNECT at the port; the last resolve fails; all five succeed. -/
theorem witness_ConnectOutcomes :
    ({ State.reset with port := [encode Config.defaults .connect] } : State).Inv ∧ ([1, 2, 3, 4] : List Handle).length < 5
      ∧ (Endpoint.antidos, 1) ∈ Config.resolveOrder.zip [1, 2, 3, 4, 5]
      ∧ (Endpoint.txpower, 3) ∈ Config.resolveOrder.zip [1, 2, 3, 4, 5]
      ∧ (Endpoint.wakecpu, 2) ∈ Config.resolveOrder.zip [1, 2, 3, 4, 5]
      ∧ (Endpoint.notify, 5) ∈ Config.resolveOrder.zip [1, 2, 3, 4, 5] :=
  ⟨⟨by decide, by decide, by decide⟩, by decide, by decide, by decide, by decide, by decide⟩

theorem witness_CmdSequence (port : List Bytes) (inputs : List Input) :
    ({ ready 0xFF with port := port, inputs := inputs } : State).Inv ∧ (ready 0xFF).handles.roll = some 4
      ∧ true ∉ (ready 0xFF).turns :=
  ⟨⟨rfl, rfl, rfl⟩, rfl, by decide⟩

/-- R200: a request waiting at the port and a notification next, DISCONNECT and NOTIFY, under the draws `turns`. -/
def bothNext (turns : List Bool) : State :=
  { ready 0 with port := [[2]], inputs := [.event [5, 1, 7]], turns := turns }

/-- R200, P5: either order, by the draw; with the notification first it is delivered in READY. -/
theorem test_either_order :
    (nextOf (step (bothNext [true]))).map (fun t => (t.session, t.trace)) = some (.ready, [.deliver 5 [7]])
      ∧ (nextOf (step (bothNext [false]))).map (fun t => (t.session, t.inputs)) = some (.closed, [.event [5, 1, 7]]) := by
  decide

theorem witness_RequestOrNotificationFirst :
    (bothNext []).Inv ∧ (bothNext []).busy = false ∧ (bothNext []).port = [2] :: []
      ∧ (bothNext []).inputs = .event [5, 1, 7] :: [] ∧ decode Config.defaults .request [2] = .ok .disconnect
      ∧ decode Config.defaults .event [5, 1, 7] = .ok (.notify 5 [7]) :=
  ⟨⟨by decide, by decide, by decide⟩, rfl, rfl, rfl, by decide, by decide⟩

/-- StepRunsInstruction, its clauses: a staged frame; a request with no event next, and with one under a draw for the request;
an event to a busy block, and one under a draw for it. -/
theorem witness_StepRunsInstruction :
    decode Config.defaults (.wire .roll) frame05 = .ok (.frame true true 2 0x20 5 4 [1, 2, 3] 0xCE)
      ∧ cmdStaged.frameBuf = some frame05 ∧ cmdStaged.writePort = some .roll
      ∧ (bothNext [false]).turns.head? ≠ some true ∧ (bothNext [true]).turns = true :: [] ∧ (bothNext [true]).port ≠ []
      ∧ decode Config.defaults .request [2] = .ok .disconnect ∧ (ready 0).busy = false
      ∧ decode Config.defaults .event [5, 1, 7] = .ok (.notify 5 [7]) ∧ (cmdOut .ok).busy = true := by decide

/-- RequestsWaitWhileBusy: a busy block, one suspended with nothing staged, and an answer that ends the wait. -/
theorem witness_RequestsWaitWhileBusy :
    cmdStaged.busy = true ∧ (cmdOut .ok).frameBuf = none
      ∧ (nextOf (step (cmdOut .ok))).map State.busy = some false := by decide

/-- ResetInput: an accepting block with an empty port; a busy one with a request waiting, whose reset is refused. -/
theorem witness_ResetInput :
    (ready 7).frameBuf = none ∧ (ready 7).port = [] ∧ (ready 7).busy = false
      ∧ ({ cmdOut .ok with port := [[2]], inputs := [.reset] } : State).busy = true
      ∧ nextOf (step { cmdOut .ok with port := [[2]], inputs := [.reset] }) = none := by decide

/-- OneWriteOutstanding: a step that writes, and a state that waits and steps. -/
theorem witness_OneWriteOutstanding :
    ((nextOf (step cmdStaged)).map State.writes ≠ some cmdStaged.writes)
      ∧ (cmdOut .ok).awaiting ≠ none ∧ (nextOf (step (cmdOut .ok))).isSome := by decide

/-- SeqOnlyByCmd, SessionTransitions, HandleChanges, StepKeepsInv, StepKeepsListening: a READY block that steps to CLOSED. -/
theorem witness_step_changes :
    ({ ready 0 with port := [[2]] } : State).Inv
      ∧ (nextOf (step { ready 0 with port := [[2]] })).map State.session = some .closed
      ∧ ({ ready 0 with trace := [.subscribe 5] } : State).listens = true :=
  ⟨⟨by decide, by decide, by decide⟩, by decide, by decide⟩

theorem witness_ClosedStaysClosed :
    closed.Inv ∧ Input.reset ∉ closed.inputs ∧ (nextOf (step closed)).isSome :=
  ⟨closed_inv, by decide, by decide⟩

theorem witness_NotifyDisturbsNothing :
    (nextOf (step { cmdOut .ok with inputs := [.event [5, 1, 7]] })).isSome
      ∧ ({ cmdOut .ok with inputs := [.event [5, 1, 7]] } : State).busy = true := by decide

theorem witness_UnansweredHangs :
    ({ cmdOut .ok with inputs := [] } : State).busy = true ∧ ({ cmdOut .ok with inputs := [] } : State).frameBuf = none := by
  decide

/-- With nothing to do the block stays as it is. -/
theorem idle_run (s : State) (h : step s = .next s) : ∀ n, core.run n s = .next s
  | 0 => rfl
  | n + 1 => by
    have := idle_run s h n
    simp only [Host.Core.run, core] at this ⊢
    rw [h]
    exact this

/-- FairOperationEnds: a command waits for its answer, which is the next input; then the block is idle for ever. -/
theorem witness_FairOperationEnds (answer : WriteAnswer) :
    (cmdOut answer).Inv ∧ (cmdOut answer).busy = true ∧ (cmdOut answer).Fair := by
  refine ⟨⟨rfl, rfl, rfl⟩, rfl, fun n t h => ?_⟩
  cases n with
  | zero =>
    cases h
    intro p hp
    cases hp
    exact ⟨[], .written answer, [], rfl, rfl, rfl⟩
  | succ n =>
    obtain ⟨r, hr⟩ : ∃ r, core.run (n + 1) (cmdOut answer) = core.run n { ready 6 with trace := [.result r] } := by
      cases answer with
      | ok => exact ⟨.ok, rfl⟩
      | err kind => exact ⟨.transportError kind, rfl⟩
    rw [hr, idle_run _ rfl] at h
    injection h with h
    intro p hp
    rw [← h] at hp
    cases hp

theorem witness_StagedIsHandedOver :
    cmdStaged.Inv ∧ cmdStaged.frameBuf = some frame05 ∧ (handshakeStaged .hsT).Inv
      ∧ (handshakeStaged .hsT).frameBuf = some [0x00, 0x07] :=
  ⟨cmdStaged_inv, rfl, handshakeStaged_inv _, rfl⟩

theorem witness_ParamsKept : (nextOf (step State.reset)).isSome := by decide

theorem witness_OpCodes :
    (0xF8 : Byte).extractLsb' 0 3 = 0#3 ∧ (0xF9 : Byte).extractLsb' 0 3 = 1#3 ∧ (0xFF : Byte).extractLsb' 0 3 = 7#3 := by
  decide

end Sys2Proof.Tests
end

section
/-! The UUID map of 20_memory.md (R52). -/

namespace Sys2Proof.Proofs

open Sys2Proof.Machine

/-- The two fixed parts of a UUID have the digits R52 writes out. -/
theorem uuid_eq_append (k : Endpoint) : k.uuid = 0x22bb746f#32 ++ k.fragment ++ 0x75542d6f726568705327#80 := rfl

/-- Settles O58: the concatenation for every endpoint, the fragment as `Resolve`'s argument by the law of `callResolve`
on the trace, and the ten literals of the map by evaluation. -/
theorem uuidTable : Obligations.UuidTable := by
  refine ⟨uuid_eq_append, State.callResolve_trace, ?literals⟩
  case literals => decide

end Sys2Proof.Proofs
end

section
/-! The frame that ENCODE forms (30_encoding.md, 40_checksum_sequence.md R120, R121). -/

namespace Sys2Proof.Proofs

open Sys2Proof.Machine

/-- R121: up to 254 there is a length byte, and `L + 1` fits it without wrapping. -/
theorem exists_dlen_of_le {len : Nat} (h : len ≤ 254) : ∃ b, dlen len = some b ∧ b.toNat = len + 1 := by
  refine ⟨BitVec.ofNat 8 (len + 1), if_pos h, ?_⟩
  rw [BitVec.toNat_ofNat]
  omega

/-- R83, R120: the ORed flags byte is the sync pattern with `r` and `a` appended, the field layout of R81. -/
theorem flagsByte_eq_append (a r : Bool) :
    flagsByte a r = (0b111111#6 ++ BitVec.ofBool r) ++ BitVec.ofBool a :=
  (flagsField_eq_flagsByte r a).symm

/-- R140: where the payload has a length byte, ENCODE's function gives header, payload and checksum. -/
theorem encodeFrame_of_dlen {x : FrameOperands} {len : Byte} (h : dlen x.payload.length = some len) :
    encodeFrame x = some ([Config.startByte, flagsByte x.a x.r, x.did, x.cid, x.seq, len] ++ x.payload
      ++ [chk x.did x.cid x.seq len x.payload]) := by
  rw [encodeFrame, h]

/-- Settles O9: the payload's length byte makes ENCODE's function answer a frame, and its flags byte is the appended one. -/
theorem frameLayout : Obligations.FrameLayout := by
  intro x hx
  obtain ⟨len, hdlen, hlen⟩ := exists_dlen_of_le hx
  refine ⟨len, hlen, ?frame⟩
  case frame => rw [encodeFrame_of_dlen hdlen, flagsByte_eq_append, Config.startByte]

end Sys2Proof.Proofs
end

section
/-! The datapath functions `Flags`, `Dlen` and `Chk` (40_checksum_sequence.md R120, R121, R122). -/

namespace Sys2Proof.Proofs

open Sys2Proof.Machine

/-- R9: the model's recursive byte sum is the library's sum of the bytes' values. -/
theorem byteSum_eq_sum_map_toNat (s : Bytes) : byteSum s = (s.map BitVec.toNat).sum := by
  induction s with
  | nil => rfl
  | cons b bs ih => rw [byteSum, ih, List.map_cons, List.sum_cons]

/-- R124: complementing a byte by XOR is the subtraction from 255, which never borrows. -/
theorem toNat_xor_ff (s : Byte) : (s ^^^ 0xFF).toNat = 255 - s.toNat := by
  have hnot : s ^^^ 0xFF = ~~~s := BitVec.xor_allOnes
  rw [hnot, BitVec.toNat_not]

/-- R122: the complemented sum is below 256, so taking it as a byte loses nothing. -/
theorem toNat_chk (did cid seq len : Byte) (payload : Bytes) :
    (chk did cid seq len payload).toNat
      = 255 - (byteSum payload + did.toNat + cid.toNat + seq.toNat + len.toNat) % 256 := by
  rw [chk, BitVec.toNat_ofNat]
  omega

/-- R122: the checksum in the form of an XOR with `0xFF`. -/
theorem chk_eq_xor (did cid seq len : Byte) (payload : Bytes) :
    chk did cid seq len payload
      = BitVec.ofNat 8 (byteSum payload + did.toNat + cid.toNat + seq.toNat + len.toNat) ^^^ 0xFF := by
  apply BitVec.eq_of_toNat_eq
  rw [toNat_chk, toNat_xor_ff, BitVec.toNat_ofNat]

/-- Settles O3: both forms of the complement, for the model's byte sum read as the library's sum. -/
theorem chkFormula : Obligations.ChkFormula := by
  intro did cid seq len payload
  rw [← byteSum_eq_sum_map_toNat]
  exact ⟨toNat_chk did cid seq len payload, chk_eq_xor did cid seq len payload⟩

/-- R120: the sync pattern is the upper part of the byte, above the two option bits. -/
theorem flagsByte_sync (a r : Bool) : (flagsByte a r).extractLsb' 2 6 = 0b111111#6 := by
  rw [flagsByte_eq_append, BitVec.append_assoc]
  exact BitVec.extractLsb'_append_eq_left

/-- R120: bit 1 is `r`. Appending one bit is `BitVec.concat`, whose bit laws give this one and the next. -/
theorem flagsByte_getLsbD_one (a r : Bool) : (flagsByte a r).getLsbD 1 = r := by
  rw [flagsByte_eq_append]
  exact BitVec.getLsbD_concat_succ.trans BitVec.getLsbD_concat_zero

/-- R120: bit 0 is `a`. -/
theorem flagsByte_getLsbD_zero (a r : Bool) : (flagsByte a r).getLsbD 0 = a := by
  rw [flagsByte_eq_append]
  exact BitVec.getLsbD_concat_zero

/-- Settles O1: the three fields from the byte as an append, its four values by evaluation. -/
theorem flagsByteValue : Obligations.FlagsByteValue := by
  refine ⟨fun a r => ⟨flagsByte_sync a r, flagsByte_getLsbD_one a r, flagsByte_getLsbD_zero a r⟩, ?values⟩
  case values => decide

/-- R121: above 254 there is no length byte, which is `OversizedPayload`. -/
theorem dlen_eq_none {len : Nat} (h : 255 ≤ len) : dlen len = none :=
  if_neg (Nat.not_le.mpr h)

/-- Settles O2: the two sides of the bound of R121. -/
theorem dlenExact : Obligations.DlenExact :=
  fun _ => ⟨exists_dlen_of_le, dlen_eq_none⟩

end Sys2Proof.Proofs
end

section
/-! The operation ENCODE as the request port serves it (41_encode_decode.md R140, R192). -/

namespace Sys2Proof.Proofs

open Sys2Proof.Machine

/-- R121: up to 254 the length byte is that of `L + 1`. -/
theorem dlen_eq_some {len : Nat} (h : len ≤ 254) : dlen len = some (BitVec.ofNat 8 (len + 1)) :=
  if_pos h

/-- R140: without a length byte ENCODE's function forms nothing. -/
theorem encodeFrame_of_dlen_none {x : FrameOperands} (h : dlen x.payload.length = none) :
    encodeFrame x = none := by
  rw [encodeFrame, h]

/-- R140: a formed frame is what the caller gets. -/
theorem encodeResult_of_some {x : FrameOperands} {f : Bytes} (h : encodeFrame x = some f) :
    encodeResult x = .frame f := by
  rw [encodeResult, h]

/-- R192: where no frame is formed the caller gets `OversizedPayload`. -/
theorem encodeResult_of_none {x : FrameOperands} (h : encodeFrame x = none) :
    encodeResult x = .oversizedPayload := by
  rw [encodeResult, h]

/-- R140: ENCODE's result, on both sides of the bound of R121. -/
theorem encodeResult_eq (x : FrameOperands) :
    encodeResult x =
      if x.payload.length ≤ 254 then
        .frame ([0xFF, flagsByte x.a x.r, x.did, x.cid, x.seq, BitVec.ofNat 8 (x.payload.length + 1)] ++ x.payload
          ++ [chk x.did x.cid x.seq (BitVec.ofNat 8 (x.payload.length + 1)) x.payload])
      else .oversizedPayload := by
  split
  case isTrue hle => exact encodeResult_of_some (encodeFrame_of_dlen (dlen_eq_some hle))
  case isFalse hgt => exact encodeResult_of_none (encodeFrame_of_dlen_none (dlen_eq_none (Nat.not_le.mp hgt)))

/-- R140, R146: an accepting block answers ENCODE with its result and nothing else. -/
theorem exec_encode_of_accepts {s : State} (h : s.accepts = true) (did cid : Byte) (payload : Bytes) (a r : Bool)
    (seq : Byte) :
    exec (.encode did cid payload a r seq) s = .next (s.reply (encodeResult { did, cid, payload, a, r, seq })) :=
  if_pos h

/-- Settles O13: an accepting block only replies, and the reply is ENCODE's result on its side of the bound. -/
theorem encodeServed : Obligations.EncodeServed := by
  intro did cid seq payload a r s hbusy hsession
  rw [exec_encode_of_accepts (State.accepts_of_idle hbusy hsession), encodeResult_eq]
  rfl

end Sys2Proof.Proofs
end

section
/-! The state of a fresh instance and what the session operations do in it (10_state.md R30, 42_session_ops.md R161, R163,
R165, 70_reset_and_hazards.md R220). -/

namespace Sys2Proof.Proofs

open Sys2Proof.Machine

/-- R30: with nothing resolved, every endpoint reads `NONE`. -/
@[simp] theorem get_unresolved (k : Endpoint) : Handles.unresolved.get k = none := by
  cases k <;> rfl

section Idle

variable {s : State} (hsession : s.session = .idle) (hbusy : s.busy = false)
include hsession hbusy

/-- R160: in IDLE with BUSY clear the request port accepts. -/
theorem accepts_in_idle : s.accepts = true :=
  State.accepts_of_idle hbusy (by simp [hsession])

/-- R161: CONNECT in IDLE enters HANDSHAKING and goes on with line 2 in the order of `RESOLVE_ORDER`. -/
theorem exec_connect_in_idle :
    exec .connect s = { s with busy := true, session := .handshaking, seq := Config.seqReset }.resolveNext
      s.params.resolveOrder := by
  simp only [exec, execConnect, accepts_in_idle hsession hbusy, if_true, hsession]

/-- R163: CMD in IDLE only replies `IllegalOp`. -/
theorem exec_cmd_in_idle (did cid : Byte) (payload : Bytes) (a r : Bool) :
    exec (.cmd did cid payload a r) s = .next (s.reply .illegalOp) := by
  simp only [exec, execCmd, accepts_in_idle hsession hbusy, if_true, hsession]

/-- R165: DISCONNECT in IDLE only replies `IllegalOp`. -/
theorem exec_disconnect_in_idle : exec .disconnect s = .next (s.reply .illegalOp) := by
  simp only [exec, execDisconnect, accepts_in_idle hsession hbusy, if_true, hsession]

/-- R161: where the resolution order starts with `k`, CONNECT in IDLE ends its first step in HANDSHAKING, waiting for the
handle of `k`. -/
theorem exec_connect_in_idle_of_order {k : Endpoint} {later : List Endpoint} (horder : s.params.resolveOrder = k :: later) :
    exec .connect s = .next
      ({ s with busy := true, session := .handshaking, seq := Config.seqReset }.callResolve k later) := by
  rw [exec_connect_in_idle hsession hbusy, horder, State.resolveNext]

end Idle

/-- Settles O36: the registers by definition of the reset state; it is idle with BUSY clear, so CONNECT calls its first
`Resolve`, and CMD and DISCONNECT only reply, which leaves session and BUSY. -/
theorem resetState : Obligations.ResetState := by
  have hsession : State.reset.session = .idle := rfl
  have hbusy : State.reset.busy = false := rfl
  refine ⟨⟨hsession, rfl, get_unresolved, hbusy, rfl⟩, rfl, ?connect, ?idleOnly⟩
  case connect =>
    exact ⟨_, exec_connect_in_idle_of_order hsession hbusy rfl, State.callResolve_session _ _ _⟩
  case idleOnly =>
    rintro i (rfl | ⟨did, cid, payload, a, r, rfl⟩)
    · exact ⟨_, exec_disconnect_in_idle hsession hbusy, State.reply_session _ _, State.reply_busy _ _⟩
    · exact ⟨_, exec_cmd_in_idle hsession hbusy did cid payload a r, State.reply_session _ _, State.reply_busy _ _⟩

end Sys2Proof.Proofs
end

section
/-! Byte sums and the checksum (40_checksum_sequence.md R122 to R128). -/

namespace Sys2Proof.Proofs

open Sys2Proof.Machine

/-! ### Byte sums -/

@[simp] theorem byteSum_nil : byteSum [] = 0 := rfl

@[simp] theorem byteSum_cons (b : Byte) (s : Bytes) : byteSum (b :: s) = b.toNat + byteSum s := rfl

@[simp] theorem byteSum_append (s s' : Bytes) : byteSum (s ++ s') = byteSum s + byteSum s' := by
  simp only [byteSum_eq_sum_map_toNat, List.map_append, List.sum_append]

/-- R123: a sum does not depend on the order of its bytes. -/
theorem byteSum_eq_of_perm {s s' : Bytes} (h : s.Perm s') : byteSum s = byteSum s' := by
  rw [byteSum_eq_sum_map_toNat, byteSum_eq_sum_map_toNat]
  exact (h.map BitVec.toNat).sum_nat

/-- Exchanging one byte exchanges its part of the sum. -/
theorem byteSum_set {s : Bytes} {i : Nat} (hi : i < s.length) (b : Byte) :
    byteSum (s.set i b) + (byteAt s i).toNat = byteSum s + b.toNat := by
  induction s generalizing i with
  | nil => exact absurd hi (Nat.not_lt_zero i)
  | cons c s ih =>
    cases i with
    | zero => simp only [List.set_cons_zero, byteSum_cons, byteAt, List.getD_cons_zero]; omega
    | succ i =>
      have := ih (Nat.lt_of_succ_lt_succ hi)
      simp only [List.set_cons_succ, byteSum_cons, byteAt, List.getD_cons_succ] at this ⊢
      omega

/-- R123: an 8-bit register drops the carries, so it holds the natural sum as a byte. -/
theorem foldl_add_eq_ofNat_byteSum (s : Bytes) (acc : Byte) :
    s.foldl (fun acc b => acc + b) acc = acc + BitVec.ofNat 8 (byteSum s) := by
  induction s generalizing acc with
  | nil => simp
  | cons b s ih => rw [List.foldl_cons, ih, byteSum_cons, BitVec.ofNat_add, BitVec.ofNat_toNat, BitVec.setWidth_eq,
      BitVec.add_assoc]

/-! ### The checksum -/

/-- Settles O4: the accumulator holds the sum of the bytes as a byte, and a sum does not depend on their order. -/
theorem chkAccumulatorAnyOrder : Obligations.ChkAccumulatorAnyOrder := by
  intro did cid seq len payload order hperm
  have hsum : byteSum order = byteSum payload + did.toNat + cid.toNat + seq.toNat + len.toNat := by
    rw [byteSum_eq_of_perm hperm]
    simp only [byteSum_append, byteSum_cons, byteSum_nil]
    omega
  have hacc : order.foldl (fun acc b => acc + b) 0 = BitVec.ofNat 8 (byteSum order) :=
    (foldl_add_eq_ofNat_byteSum order 0).trans (BitVec.zero_add _)
  rw [chkAcc, hacc, hsum, chk_eq_xor]

/-- R124: the checksum is the byte that completes the sum of its inputs to 255 modulo 256. -/
theorem chk_eq_iff_byteSum (did cid seq len : Byte) (payload : Bytes) (c : Byte) :
    chk did cid seq len payload = c ↔ byteSum ([did, cid, seq, len] ++ payload ++ [c]) % 256 = 0xFF := by
  rw [← BitVec.toNat_inj, toNat_chk]
  simp only [byteSum_append, byteSum_cons, byteSum_nil]
  omega

/-! ### A byte string of seven bytes or more, by its positions -/

section Shape

variable (b0 b1 did cid seq len : Byte) (payload : Bytes) (c : Byte)

theorem length_shape : ([b0, b1, did, cid, seq, len] ++ payload ++ [c]).length = payload.length + 7 := by
  simp only [List.length_append, List.length_cons, List.length_nil]
  omega

/-- The last byte stands after the payload. -/
theorem byteAt_shape_last :
    byteAt ([b0, b1, did, cid, seq, len] ++ payload ++ [c]) (payload.length + 6) = c := by
  have hlen : ([b0, b1, did, cid, seq, len] ++ payload).length = payload.length + 6 := by
    rw [List.length_append]; exact Nat.add_comm 6 _
  rw [byteAt, List.getD_eq_getElem?_getD, ← hlen, List.getElem?_concat_length, Option.getD_some]

/-- The payload stands between byte 5 and the last byte. -/
theorem slice_shape_payload :
    slice ([b0, b1, did, cid, seq, len] ++ payload ++ [c]) 6 (payload.length + 6) = payload := by
  rw [slice, Nat.add_sub_cancel]
  exact List.take_left' rfl

/-- R126: the check compares the checksum of the fields with the last byte. -/
theorem chkOk_shape :
    chkOk ([b0, b1, did, cid, seq, len] ++ payload ++ [c]) = true ↔ chk did cid seq len payload = c := by
  rw [chkOk, length_shape, Nat.add_sub_assoc (by decide), slice_shape_payload, byteAt_shape_last, beq_iff_eq]
  rfl

/-- Every byte string of seven bytes or more has this shape. -/
theorem exists_shape {f : Bytes} (h : 7 ≤ f.length) :
    ∃ b0 b1 did cid seq len payload c, f = [b0, b1, did, cid, seq, len] ++ payload ++ [c] := by
  match f, h with
  | b0 :: b1 :: did :: cid :: seq :: len :: b :: rest, _ =>
    exact ⟨b0, b1, did, cid, seq, len, (b :: rest).dropLast, (b :: rest).getLast (List.cons_ne_nil _ _), by
      rw [List.append_assoc, List.dropLast_append_getLast]; rfl⟩

end Shape

/-- Settles O7: the comparison of the check, and the checksum as what completes the sum to 255. -/
theorem chkOkMeaning : Obligations.ChkOkMeaning := by
  intro b0 b1 did cid seq len payload c
  have hchk := chkOk_shape b0 b1 did cid seq len payload c
  exact ⟨hchk, hchk.trans (chk_eq_iff_byteSum did cid seq len payload c)⟩

/-- R126: on seven bytes or more the check is a condition on the sum of the bytes from index 2 on. -/
theorem chkOk_iff_byteSum_drop {f : Bytes} (h : 7 ≤ f.length) :
    chkOk f = true ↔ byteSum (f.drop 2) % 256 = 0xFF := by
  obtain ⟨b0, b1, did, cid, seq, len, payload, c, rfl⟩ := exists_shape h
  exact (chkOkMeaning b0 b1 did cid seq len payload c).2

/-- Two strings with one sum from index 2 on, modulo 256, pass or fail the check together. -/
theorem chkOk_congr {f g : Bytes} (hf : 7 ≤ f.length) (hg : 7 ≤ g.length)
    (h : byteSum (f.drop 2) % 256 = byteSum (g.drop 2) % 256) : chkOk f = chkOk g := by
  rw [Bool.eq_iff_iff, chkOk_iff_byteSum_drop hf, chkOk_iff_byteSum_drop hg, h]

/-- Exchanging one byte from index 2 on exchanges its part of the sum. -/
theorem byteSum_drop_two_set {f : Bytes} {i : Nat} (hi : 2 ≤ i) (hlt : i < f.length) (b : Byte) :
    byteSum ((f.set i b).drop 2) + (byteAt f i).toNat = byteSum (f.drop 2) + b.toNat := by
  obtain ⟨j, rfl⟩ := Nat.exists_eq_add_of_le hi
  have hat : byteAt f (2 + j) = byteAt (f.drop 2) j := by
    simp [byteAt, List.getD_eq_getElem?_getD]
  rw [hat, List.drop_set, if_neg (by omega), Nat.add_sub_cancel_left]
  exact byteSum_set (by rw [List.length_drop]; omega) b

/-- R128: a change of one summed byte moves the sum off `0xFF`. -/
theorem chkOk_set_eq_false {f : Bytes} {i : Nat} {b : Byte} (hlen : 7 ≤ f.length) (hok : chkOk f = true) (hi : 2 ≤ i)
    (hlt : i < f.length) (hb : byteAt f i ≠ b) : chkOk (f.set i b) = false := by
  have hsum := byteSum_drop_two_set hi hlt b
  have hne : (byteAt f i).toNat ≠ b.toNat := fun h => hb (BitVec.eq_of_toNat_eq h)
  rw [chkOk_iff_byteSum_drop hlen] at hok
  rw [← Bool.not_eq_true, chkOk_iff_byteSum_drop (by rwa [List.length_set])]
  have := (byteAt f i).isLt
  have := b.isLt
  omega

/-- R128: bytes 0 and 1 are not summed. -/
theorem chkOk_set_of_lt_two {f : Bytes} {i : Nat} {b : Byte} (hlen : 7 ≤ f.length) (hi : i < 2) :
    chkOk (f.set i b) = chkOk f :=
  chkOk_congr (by rwa [List.length_set]) hlen (by rw [List.drop_set, if_pos hi])

/-- R128: two changes that cancel modulo 256 leave the sum. -/
theorem chkOk_set_set {f : Bytes} {i j : Nat} {b b' : Byte} (hlen : 7 ≤ f.length) (hi : 2 ≤ i) (hij : i < j)
    (hj : j < f.length) (hb : b + b' = byteAt f i + byteAt f j) : chkOk ((f.set i b).set j b') = chkOk f := by
  have hlen' : (f.set i b).length = f.length := List.length_set
  refine chkOk_congr (by rwa [List.length_set, hlen']) hlen ?_
  have hat : byteAt (f.set i b) j = byteAt f j := by
    simp [byteAt, List.getD_eq_getElem?_getD, List.getElem?_set_ne hij.ne]
  have hfirst := byteSum_drop_two_set hi (hij.trans hj) b
  have hsecond := byteSum_drop_two_set (f := f.set i b) (hi.trans hij.le) (hlen'.symm ▸ hj) b'
  have hcancel := congrArg BitVec.toNat hb
  rw [BitVec.toNat_add, BitVec.toNat_add] at hcancel
  rw [hat] at hsecond
  omega

/-- Settles O8: the check sees the sum of the bytes from index 2 on modulo 256, and nothing else. -/
theorem checksumDetection : Obligations.ChecksumDetection := by
  refine ⟨fun f i b => chkOk_set_eq_false, fun f i b => chkOk_set_of_lt_two, ?permuted,
    fun f i j b b' => chkOk_set_set⟩
  case permuted =>
    intro b0 b1 c summed summed' hlen hperm
    have hlen' := hperm.length_eq
    refine chkOk_congr (by simp; omega) (by simp; omega) ?_
    simp [byteSum_eq_of_perm hperm]

/-! ### The complement and the successor -/

/-- R124: subtracting from 255 never borrows. -/
theorem toNat_ff_sub (s : Byte) : (255 - s).toNat = 255 - s.toNat := by
  have := s.isLt
  simp only [BitVec.toNat_sub, show (255 : Byte).toNat = 255 from rfl]
  omega

/-- R124: the two forms of the complement. -/
theorem ff_sub_eq_xor (s : Byte) : 255 - s = s ^^^ 0xFF := by
  apply BitVec.eq_of_toNat_eq
  rw [toNat_ff_sub, toNat_xor_ff]

/-- R125: `n` successors add `n`, with wrap. -/
theorem toNat_iterate_seqNext (n : Nat) (q : Byte) : (seqNext^[n] q).toNat = (q.toNat + n) % 256 := by
  induction n with
  | zero => exact (Nat.mod_eq_of_lt q.isLt).symm
  | succ n ih =>
    rw [Function.iterate_succ_apply', seqNext, BitVec.toNat_add, ih, show (1 : Byte).toNat = 1 from rfl]
    omega

/-- Settles O6: one successor and 256 of them, both from the sum of `n` successors. -/
theorem seqNextWraps : Obligations.SeqNextWraps := by
  refine fun q => ⟨toNat_iterate_seqNext 1 q, BitVec.eq_of_toNat_eq ?_⟩
  rw [toNat_iterate_seqNext, Nat.add_mod_right]
  exact Nat.mod_eq_of_lt q.isLt

end Sys2Proof.Proofs
end

section
/-! ENCODE and DECODE on frames (30_encoding.md R81 to R89, 41_encode_decode.md R140 to R143). -/

namespace Sys2Proof.Proofs

open Sys2Proof.Machine

/-! ### ENCODE's function -/

/-- R140: a frame is formed exactly where the payload has a length byte. -/
theorem encodeFrame_eq_some_iff {x : FrameOperands} {f : Bytes} :
    encodeFrame x = some f ↔ ∃ len : Byte, len.toNat = x.payload.length + 1 ∧
      f = [Config.startByte, flagsByte x.a x.r, x.did, x.cid, x.seq, len] ++ x.payload
        ++ [chk x.did x.cid x.seq len x.payload] := by
  constructor
  · intro h
    by_cases hle : x.payload.length ≤ 254
    · obtain ⟨len, hdlen, hlen⟩ := exists_dlen_of_le hle
      rw [encodeFrame_of_dlen hdlen, Option.some.injEq] at h
      exact ⟨len, hlen, h.symm⟩
    · rw [encodeFrame_of_dlen_none (dlen_eq_none (by omega))] at h
      cases h
  · rintro ⟨len, hlen, rfl⟩
    have := len.isLt
    obtain ⟨len', hdlen, hlen'⟩ := exists_dlen_of_le (len := x.payload.length) (by omega)
    obtain rfl : len = len' := BitVec.eq_of_toNat_eq (hlen.trans hlen'.symm)
    exact encodeFrame_of_dlen hdlen

/-- R192: a longer payload is refused before anything is formed. -/
theorem encodeFrame_eq_none {x : FrameOperands} (h : 254 < x.payload.length) : encodeFrame x = none :=
  encodeFrame_of_dlen_none (dlen_eq_none h)

/-- R140: a payload that fits is framed. -/
theorem exists_encodeFrame {x : FrameOperands} (h : x.payload.length ≤ 254) : ∃ f, encodeFrame x = some f :=
  let ⟨_, hdlen, _⟩ := exists_dlen_of_le h
  ⟨_, encodeFrame_of_dlen hdlen⟩

/-- Settles O10: the length byte is one more than the payload's length and at most 255. -/
theorem frameLength : Obligations.FrameLength := by
  intro x f h
  obtain ⟨len, hlen, rfl⟩ := encodeFrame_eq_some_iff.1 h
  rw [length_shape]
  have hat : byteAt ([Config.startByte, flagsByte x.a x.r, x.did, x.cid, x.seq, len] ++ x.payload
      ++ [chk x.did x.cid x.seq len x.payload]) 5 = len := rfl
  have := len.isLt
  rw [hat]
  omega

/-- Settles O5: the complement in both forms, and the checksum as what completes a frame's sum to 255. -/
theorem complementSums : Obligations.ComplementSums := by
  refine ⟨fun s => ⟨ff_sub_eq_xor s, toNat_ff_sub s, ?sum⟩, ?frame⟩
  case sum => rw [BitVec.add_comm, BitVec.sub_add_cancel]
  case frame =>
    intro x f h
    obtain ⟨len, -, rfl⟩ := encodeFrame_eq_some_iff.1 h
    exact (chk_eq_iff_byteSum x.did x.cid x.seq len x.payload _).1 rfl

/-! ### DECODE's function -/

section Shape

variable (b0 b1 did cid seq len : Byte) (payload : Bytes) (c : Byte)

/-- R142: what DECODE answers on seven bytes or more, the four remaining checks in the spec's order. -/
theorem decodeFrame_shape :
    decodeFrame ([b0, b1, did, cid, seq, len] ++ payload ++ [c]) =
      if b0 ≠ Config.startByte then .rejected .badStart
      else if b1 &&& Config.syncBits ≠ Config.syncBits then .rejected .badSync
      else if len.toNat ≠ payload.length + 1 then .rejected .badLength
      else if c ≠ chk did cid seq len payload then .rejected .badChecksum
      else .accepted
        { did := did, cid := cid, payload := payload, a := b1.getLsbD 0, r := b1.getLsbD 1, seq := seq } := by
  have hchk : (!chkOk ([b0, b1, did, cid, seq, len] ++ payload ++ [c])) = true ↔ c ≠ chk did cid seq len payload := by
    rw [Bool.not_eq_true', ← Bool.not_eq_true, chkOk_shape, eq_comm]
  rw [decodeFrame, length_shape, if_neg (by simp [Config.frameMin, Config.frameOverhead]),
    if_congr hchk rfl rfl, Nat.add_sub_assoc (by decide : 1 ≤ 7), slice_shape_payload]
  rfl

end Shape

/-- R142: fewer than seven bytes are rejected first. -/
theorem decodeFrame_of_short {f : Bytes} (h : f.length < 7) : decodeFrame f = .rejected .tooShort :=
  if_pos h

/-- R83: a byte with the sync pattern is the flags byte of its two low bits. -/
theorem flagsByte_getLsbD {b : Byte} (h : b &&& Config.syncBits = Config.syncBits) :
    flagsByte (b.getLsbD 0) (b.getLsbD 1) = b := by
  revert b; decide

/-- R120: the flags byte has the sync pattern. -/
theorem flagsByte_and_syncBits (a r : Bool) : flagsByte a r &&& Config.syncBits = Config.syncBits := by
  rw [← flagsField_eq_flagsByte, flagsField_sync]

/-- R143: DECODE accepts exactly the frames ENCODE forms, with their operands. -/
theorem decodeFrame_eq_accepted_iff {f : Bytes} {x : FrameOperands} :
    decodeFrame f = .accepted x ↔ encodeFrame x = some f := by
  rw [encodeFrame_eq_some_iff]
  constructor
  · intro h
    by_cases hlen : f.length < 7
    · rw [decodeFrame_of_short hlen] at h
      cases h
    · obtain ⟨b0, b1, did, cid, seq, len, payload, c, rfl⟩ := exists_shape (Nat.not_lt.1 hlen)
      rw [decodeFrame_shape] at h
      split_ifs at h with hstart hsync hdlen hchk
      cases h
      simp only [ne_eq, Decidable.not_not] at hstart hsync hdlen hchk
      exact ⟨len, hdlen, by rw [flagsByte_getLsbD hsync, hstart, hchk]⟩
  · rintro ⟨len, hlen, rfl⟩
    rw [decodeFrame_shape, if_neg (by simp), if_neg (by simp [flagsByte_and_syncBits]), if_neg (by simp [hlen]),
      if_neg (by simp), flagsByte_getLsbD_zero, flagsByte_getLsbD_one]

/-- Settles O12: a fitting payload is framed, and DECODE accepts exactly what ENCODE forms. -/
theorem encodeDecodeInverse : Obligations.EncodeDecodeInverse := by
  refine ⟨fun x hx => ?_, fun f x => decodeFrame_eq_accepted_iff.1⟩
  obtain ⟨f, hf⟩ := exists_encodeFrame hx
  exact ⟨f, hf, decodeFrame_eq_accepted_iff.2 hf⟩

/-- R143: what ENCODE forms passes the checks of DECODE. -/
theorem isFrame_of_encodeFrame {x : FrameOperands} {f : Bytes} (h : encodeFrame x = some f) : isFrame f = true := by
  rw [isFrame, decodeFrame_eq_accepted_iff.2 h]

/-- R143: a frame that passes the checks was formed from some operands. -/
theorem exists_operands_of_isFrame {f : Bytes} (h : isFrame f = true) : ∃ x, encodeFrame x = some f := by
  unfold isFrame at h
  split at h
  case h_1 x hx => exact ⟨x, decodeFrame_eq_accepted_iff.1 hx⟩
  case h_2 => cases h

/-- R141: no two operand tuples give one frame. -/
theorem encodeFrame_injective {x y : FrameOperands} {f : Bytes} (hx : encodeFrame x = some f)
    (hy : encodeFrame y = some f) : x = y :=
  Decoded.accepted.inj ((decodeFrame_eq_accepted_iff.2 hx).symm.trans (decodeFrame_eq_accepted_iff.2 hy))

/-- Settles O11: the bytes of the frame at their positions, its checksum by the law of `chk`; injectivity by DECODE. -/
theorem encodeGuarantees : Obligations.EncodeGuarantees := by
  refine ⟨fun x hx => ?_, fun x => encodeFrame_eq_none, fun x y f => encodeFrame_injective⟩
  obtain ⟨len, hdlen, hlen⟩ := exists_dlen_of_le hx
  refine ⟨_, encodeFrame_of_dlen hdlen, rfl, hlen, ?last, length_shape .., (chkOk_shape ..).2 rfl⟩
  case last =>
    rw [List.getLast?_concat, Option.map_some, toNat_chk, byteSum_eq_sum_map_toNat, hlen, Nat.add_assoc _ _ 1]

/-! ### DECODE as the request port serves it -/

/-- R142, R198: DECODE's result on seven bytes or more. -/
theorem decodeResult_shape (b0 b1 did cid seq len : Byte) (payload : Bytes) (c : Byte) :
    decodeResult ([b0, b1, did, cid, seq, len] ++ payload ++ [c]) =
      if b0 ≠ Config.startByte then .frameRejected .badStart
      else if b1 &&& Config.syncBits ≠ Config.syncBits then .frameRejected .badSync
      else if len.toNat ≠ payload.length + 1 then .frameRejected .badLength
      else if c ≠ chk did cid seq len payload then .frameRejected .badChecksum
      else .operands
        { did := did, cid := cid, payload := payload, a := b1.getLsbD 0, r := b1.getLsbD 1, seq := seq } := by
  rw [decodeResult, decodeFrame_shape]
  by_cases hstart : b0 ≠ Config.startByte
  · rw [if_pos hstart, if_pos hstart]
  rw [if_neg hstart, if_neg hstart]
  by_cases hsync : b1 &&& Config.syncBits ≠ Config.syncBits
  · rw [if_pos hsync, if_pos hsync]
  rw [if_neg hsync, if_neg hsync]
  by_cases hlen : len.toNat ≠ payload.length + 1
  · rw [if_pos hlen, if_pos hlen]
  rw [if_neg hlen, if_neg hlen]
  by_cases hchk : c ≠ chk did cid seq len payload
  · rw [if_pos hchk, if_pos hchk]
  · rw [if_neg hchk, if_neg hchk]

/-- R142: an accepting block answers DECODE with its result and nothing else. -/
theorem exec_decode_of_accepts {s : State} (h : s.accepts = true) (f : Bytes) :
    exec (.decode f) s = .next (s.reply (decodeResult f)) :=
  if_pos h

/-- Settles O14: the reply is DECODE's result, by the chain of the five checks. -/
theorem decodeServed : Obligations.DecodeServed := by
  intro s hbusy hsession
  have hserved := exec_decode_of_accepts (State.accepts_of_idle hbusy hsession)
  refine ⟨fun f hf => ?short, fun b0 b1 did cid seq len payload c => ?long⟩
  case short =>
    rw [hserved, decodeResult, decodeFrame_of_short hf]
    rfl
  case long =>
    rw [hserved, decodeResult_shape]
    rfl

/-! ### Frames on the wire -/

/-- R81, R86, R88: the wire format of the operands, its length and checksum bytes right. -/
theorem encode_frame_eq (p : Params) (r a : Bool) (did cid seq len : Byte) (payload : Bytes) (c : Byte) :
    encode p (.frame r a did cid seq len payload c)
      = [Config.startByte, flagsByte a r, did, cid, seq, len] ++ payload ++ [c] := by
  rw [encode, flagsField_eq_flagsByte]

/-- R81: a frame is read back from its bytes; the layout reads no parameter, so any well-formed ones serve. -/
theorem decodeWire_roll_frame (p : Params) (r a : Bool) (did cid seq len : Byte) (payload : Bytes) (c : Byte) :
    decodeWire p .roll ([Config.startByte, flagsByte a r, did, cid, seq, len] ++ payload ++ [c])
      = .ok (.frame r a did cid seq len payload c) := by
  have hback := Laws.RoundTrip.frame r a did cid seq len payload c Config.defaults [] rfl fun _ => rfl
  rw [List.append_nil, encode_frame_eq] at hback
  exact hback

/-- Settles O55: the frame's bytes are the wire format of its operands, which the decoder reads back. -/
theorem encodedFrameWellFormed : Obligations.EncodedFrameWellFormed := by
  intro p x f lmax h
  obtain ⟨len, hlen, rfl⟩ := encodeFrame_eq_some_iff.1 h
  have := len.isLt
  refine ⟨len, _, decodeWire_roll_frame p .., ?_⟩
  rw [Instr.wf, Instr.illFormed, if_neg (by simp [Config.lmax]; omega), if_neg (by simp [hlen]), if_neg (by simp)]
  rfl

/-- R81: what is read as a frame has the bytes of that frame. -/
theorem encode_of_decodeFrameFields {p : Params} {bs : Bytes} {i : Instr} (h : decodeFrameFields bs = .ok i) :
    encode p i = bs := by
  unfold decodeFrameFields at h
  split at h
  case h_1 start flags did cid seq len last rest =>
    split_ifs at h with hstart hsync
    simp only [ne_eq, Decidable.not_not] at hstart hsync
    have htail : (last :: rest).dropLast ++ [(last :: rest).getLastD 0] = last :: rest := by
      rw [List.getLastD_cons, ← List.getLast_eq_getLastD (List.cons_ne_nil _ _),
        List.dropLast_append_getLast (List.cons_ne_nil _ _)]
    cases h
    rw [encode_frame_eq, flagsByte_getLsbD hsync, hstart, List.append_assoc, htail]
    rfl
  case h_2 => split_ifs at h
  case h_3 => cases h

/-- R93: what is read as a handshake string is that string. -/
theorem eq_of_decodeWhole {v bs : Bytes} {i j : Instr} (h : decodeWhole v i bs = .ok j) : bs = v ∧ i = j := by
  unfold decodeWhole at h
  split_ifs at h with hbs
  exact ⟨hbs, Except.ok.inj h⟩

/-- Settles O54: each handshake endpoint reads its one string, and a frame is its fields at their positions. -/
theorem wireEncodeDecode : Obligations.WireEncodeDecode := by
  intro p k bs i h
  refine ⟨?_, channel_of_decodeWire h⟩
  cases k
  case antidos => obtain ⟨rfl, rfl⟩ := eq_of_decodeWhole h; rfl
  case wakecpu => obtain ⟨rfl, rfl⟩ := eq_of_decodeWhole h; rfl
  case txpower => obtain ⟨rfl, rfl⟩ := eq_of_decodeWhole h; rfl
  case roll => exact encode_of_decodeFrameFields h
  case notify => cases h

end Sys2Proof.Proofs
end

section
/-! Reading instructions back, op codes and result codes (30_encoding.md R94, R95; 60_exceptions.md R191). -/

namespace Sys2Proof.Proofs

open Sys2Proof.Machine

/-- Settles O53: one round trip for each constructor, under `Laws.RoundTrip`. -/
theorem decodeEncode : Obligations.DecodeEncode := by
  intro p i after hp hafter
  suffices h : Laws.RoundTrip.Statement i from h p after hp hafter
  cases i with
  | connect => exact Laws.RoundTrip.connect
  | cmd did cid payload a r => exact Laws.RoundTrip.cmd did cid payload a r
  | disconnect => exact Laws.RoundTrip.disconnect
  | encode did cid payload a r seq => exact Laws.RoundTrip.encode did cid payload a r seq
  | decode f => exact Laws.RoundTrip.decode f
  | reserved5 => exact Laws.RoundTrip.reserved5
  | reserved6 => exact Laws.RoundTrip.reserved6
  | reserved7 => exact Laws.RoundTrip.reserved7
  | notify h data => exact Laws.RoundTrip.notify h data
  | frame r a did cid seq len payload c => exact Laws.RoundTrip.frame r a did cid seq len payload c
  | hsA => exact Laws.RoundTrip.hsA
  | hsT => exact Laws.RoundTrip.hsT
  | hsW => exact Laws.RoundTrip.hsW

/-- A request is read back from its bytes alone. -/
theorem decode_request_encode {p : Params} (hp : p.wf = true) {i : Instr} (hi : i.channel = .request) :
    decode p .request (encode p i) = .ok i := by
  have hback := decodeEncode p i [] hp fun _ => rfl
  rwa [List.append_nil, hi] at hback

/-- R95: the op code is the number in bits [2:0]. -/
theorem opAt_eq_of_extractLsb' (p : Params) {b : Byte} {op : BitVec 3} (h : b.extractLsb' 0 3 = op) :
    p.opAt b = p.opCodes[op.toNat]? := by
  rw [Params.opAt, ← h, BitVec.extractLsb'_toNat]
  simp

/-- R95: under the default codes a request with op code `op` is read by the format that `op` names. -/
theorem decode_request_of_op {b : Byte} {op : BitVec 3} (h : b.extractLsb' 0 3 = op) {name : OpName}
    (hname : Config.opCodes[op.toNat]? = some name) (fields : Bytes) :
    decode Config.defaults .request (b :: fields) = decodeFields name fields :=
  decodeRequest_cons ((opAt_eq_of_extractLsb' _ h).trans hname) fields

/-- Settles O56: each op code names its format, which reads the fields that follow. -/
theorem opCodes : Obligations.OpCodes :=
  ⟨fun _ h => decode_request_of_op h rfl _, fun _ h => decode_request_of_op h rfl _,
    fun _ h => decode_request_of_op h rfl _, fun _ h => decode_request_of_op h rfl _,
    fun _ h => decode_request_of_op h rfl _, fun _ h => decode_request_of_op h rfl _,
    fun _ h => decode_request_of_op h rfl _, fun _ h => decode_request_of_op h rfl _⟩

/-- Settles O57: closed words, read by evaluation. -/
theorem writtenWords : Obligations.WrittenWords := by
  unfold Obligations.WrittenWords
  decide

/-- Settles O59: the default codes, by evaluation. -/
theorem resultCodes : Obligations.ResultCodes :=
  ⟨fun _ => rfl, fun _ => rfl, by decide⟩

end Sys2Proof.Proofs
end

section
/-! What each request does where it is accepted, and its waiting where it is not (41_encode_decode.md R146; 42_session_ops.md
R161 to R165; 60_exceptions.md R192, R196, R197; 70_reset_and_hazards.md R224). -/

namespace Sys2Proof.Proofs

open Sys2Proof.Machine

/-! ### Waiting -/

/-- R224: a block that does not accept lets every request wait. -/
theorem exec_request_of_not_accepts {s : State} (h : s.accepts = false) {i : Instr} (hi : i.channel = .request) :
    exec i s = .next (s.wait i) := by
  cases i <;> cases hi <;>
    simp [exec, execConnect, execCmd, execDisconnect, execEncode, execDecode, execReserved5, execReserved6,
      execReserved7, State.reservedOp, h]

/-- R224: a busy block does not accept. -/
theorem not_accepts_of_busy {s : State} (h : s.busy = true) : s.accepts = false := by
  simp [State.accepts, h]

/-- R206: in HANDSHAKING nothing is accepted. -/
theorem not_accepts_of_handshaking {s : State} (h : s.session = .handshaking) : s.accepts = false := by
  simp [State.accepts, h]

/-! ### The pure operations -/

/-- ENCODE or DECODE. -/
def IsPure (i : Instr) : Prop :=
  (∃ did cid payload a r seq, i = .encode did cid payload a r seq) ∨ ∃ f, i = .decode f

/-- R192: ENCODE's result is a frame or `OversizedPayload`. -/
theorem encodeResult_ne_sessionClosed (x : FrameOperands) : encodeResult x ≠ .sessionClosed := by
  rw [encodeResult_eq]
  split <;> simp

/-- R198: DECODE's result is the operands or a rejection. -/
theorem decodeResult_ne_sessionClosed (f : Bytes) : decodeResult f ≠ .sessionClosed := by
  unfold decodeResult
  split <;> simp

/-- R146: a pure operation has one result, which every accepting block gives, and it is never `SessionClosed`. -/
theorem exists_pure_result {i : Instr} (h : IsPure i) :
    ∃ res, res ≠ .sessionClosed ∧ ∀ s : State, s.accepts = true → exec i s = .next (s.reply res) := by
  obtain ⟨did, cid, payload, a, r, seq, rfl⟩ | ⟨f, rfl⟩ := h
  · exact ⟨_, encodeResult_ne_sessionClosed _, fun s hs => exec_encode_of_accepts hs ..⟩
  · exact ⟨_, decodeResult_ne_sessionClosed _, fun s hs => exec_decode_of_accepts hs f⟩

theorem channel_of_isPure {i : Instr} (h : IsPure i) : i.channel = .request := by
  obtain ⟨did, cid, payload, a, r, seq, rfl⟩ | ⟨f, rfl⟩ := h <;> rfl

/-- Settles O15: the one result where the block accepts, and waiting while BUSY. -/
theorem pureServedInEveryState : Obligations.PureServedInEveryState := by
  intro i hi
  obtain ⟨res, -, hres⟩ := exists_pure_result hi
  exact ⟨res, fun s => ⟨fun hbusy hsession => hres s (State.accepts_of_idle hbusy hsession),
    fun hbusy => exec_request_of_not_accepts (not_accepts_of_busy hbusy) (channel_of_isPure hi)⟩⟩

/-! ### The session operations, by session -/

/-- Settles O16: the first step of CONNECT in IDLE. -/
theorem connectStarts : Obligations.ConnectStarts :=
  fun _ _ _ hbusy hsession horder => exec_connect_in_idle_of_order hsession hbusy horder

/-- R197: CONNECT in READY only replies `IllegalOp`. -/
theorem exec_connect_in_ready {s : State} (hbusy : s.busy = false) (hsession : s.session = .ready) :
    exec .connect s = .next (s.reply .illegalOp) := by
  have ha : s.accepts = true := State.accepts_of_idle hbusy (by simp [hsession])
  simp only [exec, execConnect, ha, if_true, hsession]

/-- R165: DISCONNECT in READY releases the transport and closes the session. -/
theorem exec_disconnect_in_ready {s : State} (hbusy : s.busy = false) (hsession : s.session = .ready) :
    exec .disconnect s = .next ((s.emit .release).close.reply .ok) := by
  have ha : s.accepts = true := State.accepts_of_idle hbusy (by simp [hsession])
  simp only [exec, execDisconnect, ha, if_true, hsession]

section Cmd

variable {did cid : Byte} {payload : Bytes} {a r : Bool} {s : State} (hbusy : s.busy = false)
  (hsession : s.session = .ready)
include hbusy hsession

/-- R163: CMD in READY with a payload that fits spends a number and stages the frame with the number read. -/
theorem exec_cmd_of_frame {f : Bytes} (h : encodeFrame { did, cid, payload, a, r, seq := s.seq } = some f) :
    exec (.cmd did cid payload a r) s = .next ({ s with busy := true, seq := seqNext s.seq }.stage .command f) := by
  have ha : s.accepts = true := State.accepts_of_idle hbusy (by simp [hsession])
  simp only [exec, execCmd, ha, if_true, hsession, h]

/-- R192, D5: CMD in READY with an oversized payload spends a number and ends. -/
theorem exec_cmd_of_oversized (h : encodeFrame { did, cid, payload, a, r, seq := s.seq } = none) :
    exec (.cmd did cid payload a r) s
      = .next ({ s with busy := true, seq := seqNext s.seq }.finish .oversizedPayload) := by
  have ha : s.accepts = true := State.accepts_of_idle hbusy (by simp [hsession])
  simp only [exec, execCmd, ha, if_true, hsession, h]

end Cmd

/-- Settles O24: the frame of a payload that fits, staged. -/
theorem cmdFrames : Obligations.CmdFrames :=
  fun _ _ _ _ _ _ hbusy hsession hlen => exec_cmd_of_frame hbusy hsession (encodeFrame_of_dlen (dlen_eq_some hlen))

/-- Settles O25: no frame is formed, so ENCODE only replies and CMD only spends its number. -/
theorem oversizedPayloadEffect : Obligations.OversizedPayloadEffect := by
  intro did cid seq payload a r s hbusy hsuspended hlen
  refine ⟨fun hsession => ?encode, fun hsession => ?cmd⟩
  case encode =>
    rw [exec_encode_of_accepts (State.accepts_of_idle hbusy hsession),
      encodeResult_of_none (encodeFrame_of_dlen_none (dlen_eq_none hlen))]
    rfl
  case cmd =>
    rw [exec_cmd_of_oversized hbusy hsession (encodeFrame_of_dlen_none (dlen_eq_none hlen))]
    simp [State.finish, State.reply, State.emit, hbusy, hsuspended]

section Closed

variable {s : State} (hbusy : s.busy = false) (hsession : s.session = .closed)
include hbusy hsession

/-- R196: in CLOSED the session operations only reply `SessionClosed`. -/
theorem exec_in_closed {i : Instr}
    (hi : i = .connect ∨ i = .disconnect ∨ ∃ did cid payload a r, i = .cmd did cid payload a r) :
    exec i s = .next (s.reply .sessionClosed) := by
  have ha : s.accepts = true := State.accepts_of_idle hbusy (by simp [hsession])
  obtain rfl | rfl | ⟨did, cid, payload, a, r, rfl⟩ := hi
  · simp only [exec, execConnect, ha, if_true, hsession]
  · simp only [exec, execDisconnect, ha, if_true, hsession]
  · simp only [exec, execCmd, ha, if_true, hsession]

end Closed

/-- Settles O27: the three operations in CLOSED; a pure operation waits, which adds no result, or gives its own result. -/
theorem sessionClosedRefuses : Obligations.SessionClosedRefuses := by
  refine ⟨fun i s hbusy hsession => exec_in_closed hbusy hsession, ?pure⟩
  case pure =>
    intro i s t _ hstep hi htrace
    obtain ⟨res, hne, hres⟩ := exists_pure_result hi
    cases ha : s.accepts with
    | true =>
      obtain rfl := Host.Outcome.next.inj ((hres s ha).symm.trans hstep)
      exact hne (Output.result.inj (List.cons.inj htrace).1)
    | false =>
      obtain rfl := Host.Outcome.next.inj
        ((exec_request_of_not_accepts ha (channel_of_isPure hi)).symm.trans hstep)
      exact List.cons_ne_self _ _ htrace.symm

/-- R97: a reserved op code in an accepting block only replies `IllegalOp`. -/
theorem exec_reserved {s : State} (ha : s.accepts = true) {i : Instr}
    (hi : i = .reserved5 ∨ i = .reserved6 ∨ i = .reserved7) : exec i s = .next (s.reply .illegalOp) := by
  obtain rfl | rfl | rfl := hi <;> exact if_pos ha

/-- Settles O28: the operations without meaning in their session, and the reserved op codes. -/
theorem illegalOpChangesNothing : Obligations.IllegalOpChangesNothing := by
  rintro i s hbusy hsession (⟨hidle, rfl | ⟨did, cid, payload, a, r, rfl⟩⟩ | ⟨hready, rfl⟩ | hreserved)
  · exact exec_disconnect_in_idle hidle hbusy
  · exact exec_cmd_in_idle hidle hbusy did cid payload a r
  · exact exec_connect_in_ready hbusy hready
  · exact exec_reserved (State.accepts_of_idle hbusy hsession) hreserved

/-- Settles O29: DISCONNECT by session; after the Release the transport holds no subscription. -/
theorem disconnectEffect : Obligations.DisconnectEffect := by
  intro s hbusy
  refine ⟨exec_disconnect_in_ready hbusy, fun hsession => exec_in_closed hbusy hsession (.inr (.inl rfl)),
    fun hsession => exec_disconnect_in_idle hsession hbusy, fun t hsession ht => ?subscription⟩
  case subscription =>
    obtain rfl := Host.Outcome.next.inj ((exec_disconnect_in_ready hbusy hsession).symm.trans ht)
    rfl

/-- Settles O30: NOTIFY reads SESSION only. -/
theorem notifyEffect : Obligations.NotifyEffect := by
  intro h data s
  constructor
  · rintro (hs | hs) <;> simp only [exec, execNotify, hs, State.emit]
  · rintro (hs | hs) <;> simp only [exec, execNotify, hs]

/-! ### The wire strings -/

/-- What a wire instruction is: the hand-over of its own words, for the operation and to the endpoint of its string. -/
theorem exec_wire {i : Instr} {k : Endpoint} (hi : i.channel = .wire k) (s : State) :
    ∃ p, exec i s = s.charWrite p k (encode s.params i) ∧
      ((∃ w : HandshakeString, i = w.instr ∧ p = .handshake w)
        ∨ ((∃ r a did cid seq len payload c, i = .frame r a did cid seq len payload c) ∧ p = .command)) := by
  cases i <;> cases hi
  case frame r a did cid seq len payload c => exact ⟨_, rfl, .inr ⟨⟨r, a, did, cid, seq, len, payload, c, rfl⟩, rfl⟩⟩
  case hsA => exact ⟨_, rfl, .inl ⟨.hsA, rfl, rfl⟩⟩
  case hsT => exact ⟨_, rfl, .inl ⟨.hsT, rfl, rfl⟩⟩
  case hsW => exact ⟨_, rfl, .inl ⟨.hsW, rfl, rfl⟩⟩

/-- Settles O23: a wire instruction is the hand-over of its words, which is refused unless they are staged. -/
theorem wireOnlyInPlace : Obligations.WireOnlyInPlace := by
  intro i k s t hi
  obtain ⟨p, hexec, hplace⟩ := exec_wire hi s
  rw [hexec]
  refine ⟨fun hbuf => ?notStaged, fun hbusy => ?notBusy, fun hnext => ?handed⟩
  case notStaged =>
    exact State.charWrite_refused (Bool.eq_false_iff.2 fun h => hbuf (State.staged_iff.1 h).2.2)
  case notBusy =>
    exact State.charWrite_refused (Bool.eq_false_iff.2 fun h =>
      Bool.false_ne_true (hbusy.symm.trans (State.staged_iff.1 h).1))
  case handed =>
    obtain ⟨-, hp, -⟩ := State.charWrite_next.1 hnext
    obtain ⟨w, hw, rfl⟩ | ⟨hf, rfl⟩ := hplace
    · exact .inl ⟨w, hw, hp⟩
    · exact .inr ⟨hf, hp⟩

/-- Settles O21: each string is staged, so it is handed over. -/
theorem handshakeHandOver : Obligations.HandshakeHandOver := by
  refine ⟨fun s h hbusy => ⟨fun hp hv hh => ?hsA, fun hp hv hh => ?hsT, fun hp hv hh => ?hsW⟩, rfl⟩
  case hsA => exact State.charWrite_next.2 ⟨hbusy, hp, hv, h, hh, rfl⟩
  case hsT => exact State.charWrite_next.2 ⟨hbusy, hp, hv, h, hh, rfl⟩
  case hsW => exact State.charWrite_next.2 ⟨hbusy, hp, hv, h, hh, rfl⟩

/-- Settles O22: the frame is staged, so it is handed over. -/
theorem frameHandOver : Obligations.FrameHandOver :=
  fun _ _ _ _ _ _ _ _ _ h hbusy hp hv hh => State.charWrite_next.2 ⟨hbusy, hp, hv, h, hh, rfl⟩

end Sys2Proof.Proofs
end

section
/-! Where a step takes its instruction from, and what it does with an input (00_scope.md R12; 42_session_ops.md R160 to R163;
60_exceptions.md R193 to R195, R200; 70_reset_and_hazards.md R221, R224, R236). -/

namespace Sys2Proof.Proofs

open Sys2Proof.Machine

variable {s t : State}

/-! ### Where the next instruction stands -/

/-- A staged string is run before anything else. -/
theorem step_of_staged {v : Bytes} {k : Endpoint} (hf : s.frameBuf = some v) (hk : s.writePort = some k) :
    step s = s.runWord (.wire k) v := by
  simp only [step, hf, hk]

/-- With no request to accept the other agents go on. -/
theorem step_of_no_request (hf : s.frameBuf = none) (h : s.accepts = false ∨ s.port = []) : step s = s.takeInput := by
  simp only [step, hf, State.serve]
  split
  · next hport => rw [h.resolve_right (by simp [hport]), if_neg Bool.false_ne_true]
  · rfl

/-- R224, R206: where no request can be accepted. -/
theorem no_request_of (h : s.busy = true ∨ s.session = .handshaking ∨ s.port = []) :
    s.accepts = false ∨ s.port = [] := by
  obtain hbusy | hsession | hport := h
  · exact .inl (not_accepts_of_busy hbusy)
  · exact .inl (not_accepts_of_handshaking hsession)
  · exact .inr hport

section Request

variable {bs : Bytes} {ps : List Bytes} (hf : s.frameBuf = none) (ha : s.accepts = true) (hport : s.port = bs :: ps)
include hf ha hport

/-- R224: an accepting block takes its oldest request, unless the draw is for a notification. -/
theorem step_of_request (h : s.eventFirst = false) :
    step s = { s.drawn with port := ps }.runWord .request bs := by
  simp only [step, hf, State.serve, hport, ha, if_true, h, Bool.false_eq_true, if_false]

/-- R200: where the draw is for the notification, it goes first. -/
theorem step_of_eventFirst (h : s.eventFirst = true) : step s = s.drawn.takeInput := by
  simp only [step, hf, State.serve, hport, ha, if_true, h]

end Request

/-- A word that decodes runs as its instruction. -/
theorem runWord_of_decode {c : Channel} {bs : Bytes} {i : Instr} (h : decode s.params c bs = .ok i) :
    s.runWord c bs = exec i s := by
  rw [State.runWord, h]

/-! ### The draw -/

theorem eventNext_of_event {e : Bytes} (h : s.inputs.head? = some (.event e)) : s.eventNext = true := by
  obtain ⟨rest, hi⟩ := List.head?_eq_some_iff.1 h
  rw [State.eventNext, hi]

theorem eventNext_eq_false (h : ∀ e, s.inputs.head? ≠ some (.event e)) : s.eventNext = false := by
  unfold State.eventNext
  split
  · next e rest hi => exact absurd (congrArg List.head? hi) (h e)
  all_goals rfl

theorem drawn_of_event (h : s.eventNext = true) : s.drawn = { s with turns := s.turns.tail } := by
  rw [State.drawn, if_pos h]

theorem drawn_of_no_event (h : s.eventNext = false) : s.drawn = s := by
  rw [State.drawn, if_neg (by simp [h])]

/-- Using a draw up drops one, or none where there was no choice. -/
theorem exists_drawn (s : State) : ∃ d, d ⊆ s.turns ∧ s.drawn = { s with turns := d } := by
  cases hn : s.eventNext with
  | true => exact ⟨_, List.tail_subset _, drawn_of_event hn⟩
  | false => exact ⟨_, List.Subset.refl _, drawn_of_no_event hn⟩

theorem eventFirst_of_no_event (h : s.eventNext = false) : s.eventFirst = false := by
  rw [State.eventFirst, h, Bool.false_and]

theorem eventFirst_of_event (h : s.eventNext = true) : s.eventFirst = s.turns.headD false := by
  rw [State.eventFirst, h, Bool.true_and]

/-! ### What an input does -/

section Inputs

variable {rest : List Input}

theorem takeInput_request {bs : Bytes} (h : s.inputs = .request bs :: rest) :
    s.takeInput = .next { s with inputs := rest, port := s.port ++ [bs] } := by
  simp only [State.takeInput, h]

theorem takeInput_event {bs : Bytes} (h : s.inputs = .event bs :: rest) :
    s.takeInput = { s with inputs := rest }.runWord .event bs := by
  simp only [State.takeInput, h]

theorem takeInput_resolved {answer : ResolveAnswer} (h : s.inputs = .resolved answer :: rest) :
    s.takeInput = { s with inputs := rest }.onResolved answer := by
  simp only [State.takeInput, h]

theorem takeInput_written {answer : WriteAnswer} (h : s.inputs = .written answer :: rest) :
    s.takeInput = { s with inputs := rest }.onWritten answer := by
  simp only [State.takeInput, h]

theorem takeInput_reset (h : s.inputs = .reset :: rest) : s.takeInput = { s with inputs := rest }.onReset := by
  simp only [State.takeInput, h]

/-- R12: while a call is outstanding a step takes the next input. -/
theorem step_of_awaiting {p : Suspended} (h : s.awaiting = some p) : step s = s.takeInput := by
  obtain ⟨hbusy, hf, -⟩ := State.awaiting_eq_some.1 h
  exact step_of_no_request hf (.inl (not_accepts_of_busy hbusy))

/-- R161 line 2: the handle is stored and CONNECT goes on. -/
theorem step_handle {k : Endpoint} {later : List Endpoint} {h : Handle} (hw : s.awaiting = some (.resolving k later))
    (hi : s.inputs = .resolved (.handle h) :: rest) :
    step s = (State.setHandle { s with inputs := rest } k h).resolveNext later := by
  have hw' : State.awaiting { s with inputs := rest } = some (.resolving k later) := hw
  rw [step_of_awaiting hw, takeInput_resolved hi, State.onResolved, hw']

/-- R193: nothing was found and CONNECT aborts. -/
theorem step_notFound {k : Endpoint} {later : List Endpoint} (hw : s.awaiting = some (.resolving k later))
    (hi : s.inputs = .resolved .notFound :: rest) :
    step s = .next ({ s with inputs := rest }.abort .characteristicNotFound) := by
  have hw' : State.awaiting { s with inputs := rest } = some (.resolving k later) := hw
  rw [step_of_awaiting hw, takeInput_resolved hi, State.onResolved, hw']

/-- R161 lines 4 to 7: an acknowledged handshake write leads on. -/
theorem step_acknowledged {w : HandshakeString} (hw : s.awaiting = some (.handshake w))
    (hi : s.inputs = .written .ok :: rest) : step s = State.handshakeNext { s with inputs := rest } w := by
  have hw' : State.awaiting { s with inputs := rest } = some (.handshake w) := hw
  rw [step_of_awaiting hw, takeInput_written hi, State.onWritten, hw']

/-- R194: a failed handshake write aborts CONNECT. -/
theorem step_handshakeErr {w : HandshakeString} {kind : ErrKind} (hw : s.awaiting = some (.handshake w))
    (hi : s.inputs = .written (.err kind) :: rest) :
    step s = .next ({ s with inputs := rest }.abort .handshakeFailed) := by
  have hw' : State.awaiting { s with inputs := rest } = some (.handshake w) := hw
  rw [step_of_awaiting hw, takeInput_written hi, State.onWritten, hw']

/-- R163 line 4, R195: what CMD gives for the answer to its write. -/
def cmdResult : WriteAnswer → Result
  | .ok => .ok
  | .err kind => .transportError kind

/-- R163 line 4: the answer to the write of a frame ends CMD. -/
theorem step_cmdDone {answer : WriteAnswer} (hw : s.awaiting = some .command)
    (hi : s.inputs = .written answer :: rest) :
    step s = .next ({ s with inputs := rest }.finish (cmdResult answer)) := by
  have hw' : State.awaiting { s with inputs := rest } = some .command := hw
  rw [step_of_awaiting hw, takeInput_written hi]
  cases answer <;> simp only [State.onWritten, hw', cmdResult]

end Inputs

/-! ### CONNECT's own steps -/

/-- R161 line 3: subscription and HS-A. -/
theorem resolvedAll_afterResolve {h : Handle} (hp : s.params.subscribePoint = .afterResolve)
    (hn : s.handles.notify = some h) : s.resolvedAll = .next ((s.emit (.subscribe h)).stageHandshake .hsA) := by
  simp only [State.resolvedAll, hp, State.subscribe, hn]

/-- D12: no subscription at this point. -/
theorem resolvedAll_not_afterResolve (hp : s.params.subscribePoint ≠ .afterResolve) :
    s.resolvedAll = .next (s.stageHandshake .hsA) := by
  unfold State.resolvedAll
  split
  · next h => exact absurd h hp
  all_goals rfl

/-- D12: CONNECT ends with the subscription. -/
theorem handshakeDone_afterHandshake {h : Handle} (hp : s.params.subscribePoint = .afterHandshake)
    (hn : s.handles.notify = some h) :
    s.handshakeDone = .next (({ s with session := .ready }.emit (.subscribe h)).finish .ok) := by
  simp only [State.handshakeDone, hp, State.subscribe, hn]

/-- R161 line 7: CONNECT ends in READY. -/
theorem handshakeDone_not_afterHandshake (hp : s.params.subscribePoint ≠ .afterHandshake) :
    s.handshakeDone = .next ({ s with session := .ready }.finish .ok) := by
  unfold State.handshakeDone
  dsimp only
  split
  · next h => exact absurd h hp
  all_goals rfl

/-! ### The obligations of single steps -/

/-- Settles O17: the step stores the handle and resolves the next endpoint or goes on with line 3. -/
theorem handleAnswered : Obligations.HandleAnswered := by
  intro s k h rest hbusy hf hi
  have hstep : ∀ later, s.suspended = some (.resolving k later) →
      step s = (State.setHandle { s with inputs := rest } k h).resolveNext later := fun later hs =>
    step_handle (State.awaiting_eq_some.2 ⟨hbusy, hf, hs⟩) hi
  refine ⟨fun k' later hs => hstep _ hs, fun hn hs hp hnotify => ?subscribed, fun hs hp => ?notSubscribed⟩
  case subscribed => exact (hstep _ hs).trans (resolvedAll_afterResolve hp hnotify)
  case notSubscribed => exact (hstep _ hs).trans (resolvedAll_not_afterResolve hp)

/-- Settles O19: the next string is staged, or CONNECT ends in READY. -/
theorem handshakeAcknowledged : Obligations.HandshakeAcknowledged := by
  intro s rest hbusy hf hi
  have hstep : ∀ w, s.suspended = some (.handshake w) → step s = State.handshakeNext { s with inputs := rest } w :=
    fun w hs => step_acknowledged (State.awaiting_eq_some.2 ⟨hbusy, hf, hs⟩) hi
  refine ⟨hstep .hsA, hstep .hsT, fun hs hp => ?ready, fun hn hs hp hnotify => ?subscribed⟩
  case ready => exact (hstep _ hs).trans (handshakeDone_not_afterHandshake hp)
  case subscribed => exact (hstep _ hs).trans (handshakeDone_afterHandshake hp hnotify)

/-- Settles O26: the answer ends CMD, and nothing but BUSY, the operation and the result port changes. -/
theorem cmdAnswered : Obligations.CmdAnswered := by
  intro s answer rest hbusy hs hf hi
  rw [step_cmdDone (State.awaiting_eq_some.2 ⟨hbusy, hf, hs⟩) hi]
  cases answer <;> rfl

/-- Settles O33: the three places an instruction is taken from, in their order. -/
theorem stepRunsInstruction : Obligations.StepRunsInstruction := by
  intro s bs i
  refine ⟨fun k hf hk hd => ?staged,
    fun ps hf hbusy hsession hport hd => ⟨fun hne => ?noEvent, fun e he hturn => ?requestFirst⟩,
    fun rest hf hi hd => ⟨fun hno => ?event, fun ds hbusy hsession hport hturn => ?eventFirst⟩⟩
  case staged => rw [step_of_staged hf hk, runWord_of_decode hd]
  case noEvent =>
    have hn := eventNext_eq_false hne
    rw [step_of_request hf (State.accepts_of_idle hbusy hsession) hport (eventFirst_of_no_event hn),
      drawn_of_no_event hn]
    exact runWord_of_decode hd
  case requestFirst =>
    have hn := eventNext_of_event he
    have hfirst : s.eventFirst = false := by
      rw [eventFirst_of_event hn, List.headD_eq_head?_getD]
      cases hhead : s.turns.head? with
      | none => rfl
      | some b => cases b with
        | false => rfl
        | true => exact absurd hhead hturn
    rw [step_of_request hf (State.accepts_of_idle hbusy hsession) hport hfirst, drawn_of_event hn]
    exact runWord_of_decode hd
  case event =>
    rw [step_of_no_request hf (no_request_of hno), takeInput_event hi]
    exact runWord_of_decode hd
  case eventFirst =>
    have hn := eventNext_of_event (e := bs) (by rw [hi]; rfl)
    obtain ⟨b, ps, hport⟩ := List.exists_cons_of_ne_nil hport
    rw [step_of_eventFirst hf (State.accepts_of_idle hbusy hsession) hport (by rw [eventFirst_of_event hn, hturn]; rfl),
      drawn_of_event hn, takeInput_event (s := { s with turns := s.turns.tail }) hi, hturn]
    exact runWord_of_decode hd

/-- Settles O37: where no request goes before it the step takes the reset, which only BUSY refuses. -/
theorem resetInput : Obligations.ResetInput := by
  intro s rest hf hi
  refine ⟨fun hbusy hno => ?fresh, fun hbusy => ?refused⟩
  case fresh =>
    rw [step_of_no_request hf (no_request_of (.inr hno.symm)), takeInput_reset hi]
    exact if_neg (by simp [hbusy])
  case refused =>
    rw [step_of_no_request hf (.inl (not_accepts_of_busy hbusy)), takeInput_reset hi]
    exact if_pos hbusy

/-- R172: the two sessions in which NOTIFY is dropped. -/
theorem idle_or_closed (h : ¬(s.session = .handshaking ∨ s.session = .ready)) :
    s.session = .idle ∨ s.session = .closed := by
  cases hs : s.session <;> simp [hs] at h ⊢

/-- Settles O43: the step takes the event, which is a NOTIFY, and NOTIFY only delivers. -/
theorem notifyDisturbsNothing : Obligations.NotifyDisturbsNothing := by
  intro s t bs rest hf hno hi hstep
  rw [step_of_no_request hf (no_request_of hno), takeInput_event hi, State.runWord] at hstep
  split at hstep
  case h_1 i hd =>
    obtain ⟨h, data, rfl⟩ := notify_of_decodeEvent hd
    refine ⟨h, data, hd, Host.Outcome.next.inj (hstep.symm.trans ?_)⟩
    obtain ⟨hdeliver, hdrop⟩ := notifyEffect h data { s with inputs := rest }
    by_cases hs : s.session = .handshaking ∨ s.session = .ready
    · rw [hdeliver hs, if_pos hs]
    · rw [hdrop (idle_or_closed hs), if_neg hs]
  case h_2 => cases hstep

/-- Settles O44: a busy block waits for an input, and none is left. -/
theorem unansweredHangs : Obligations.UnansweredHangs := by
  intro s hbusy hf hi
  rw [step_of_no_request hf (.inl (not_accepts_of_busy hbusy)), State.takeInput, hi]

end Sys2Proof.Proofs
end

section
/-! The invariant and what every step keeps (10_state.md R22 to R25; 20_memory.md R54, R66; 42_session_ops.md R160, R173). -/

namespace Sys2Proof.Proofs

open Sys2Proof.Machine

variable {s t : State}

/-! ### Handles -/

/-- Every endpoint has a handle. -/
theorem full_iff {hs : Handles} : hs.full = true ↔ ∀ k, ∃ h, hs.get k = some h := by
  simp only [Handles.full, Bool.and_eq_true, Option.isSome_iff_exists]
  constructor
  · rintro ⟨⟨⟨⟨hA, hW⟩, hT⟩, hR⟩, hN⟩ k
    cases k <;> assumption
  · exact fun h => ⟨⟨⟨⟨h .antidos, h .wakecpu⟩, h .txpower⟩, h .roll⟩, h .notify⟩

/-- Exactly the endpoints of `missing` have none. -/
theorem lacks_iff {hs : Handles} {missing : List Endpoint} :
    hs.lacks missing = true ↔ ∀ k, k ∈ missing ↔ hs.get k = none := by
  have hat : ∀ k, (missing.contains k == (hs.get k).isNone) = true ↔ (k ∈ missing ↔ hs.get k = none) := fun k => by
    rw [beq_iff_eq, Bool.eq_iff_iff, List.contains_iff_mem, Option.isNone_iff_eq_none]
  simp only [Handles.lacks, List.all_cons, List.all_nil, Bool.and_true, Bool.and_eq_true, hat]
  constructor
  · rintro ⟨hA, hW, hT, hR, hN⟩ k
    cases k <;> assumption
  · exact fun h => ⟨h .antidos, h .wakecpu, h .txpower, h .roll, h .notify⟩

/-- With nothing missing every handle is resolved. -/
theorem full_of_lacks_nil {hs : Handles} (h : hs.lacks [] = true) : hs.full = true :=
  full_iff.2 fun k => Option.ne_none_iff_exists'.1 fun hk => List.not_mem_nil ((lacks_iff.1 h k).2 hk)

/-- The handle stored is no longer missing. -/
theorem lacks_set {hs : Handles} {k : Endpoint} {later : List Endpoint} (h : hs.lacks (k :: later) = true)
    (hnd : (k :: later).Nodup) (hk : Handle) : (hs.set k hk).lacks later = true := by
  rw [lacks_iff] at h ⊢
  intro k'
  by_cases hkk : k' = k
  · subst hkk
    simp [(List.nodup_cons.1 hnd).1]
  · rw [Handles.get_set_other hs hk hkk, ← h k', List.mem_cons, or_iff_right hkk]

/-! ### The parameters -/

/-- R53: the resolve order is a permutation of the five endpoints. -/
theorem resolveOrder_perm {p : Params} (h : p.wf = true) : p.resolveOrder.Perm Config.resolveOrder := by
  simp only [Params.wf, Bool.and_eq_true, List.isPerm_iff] at h
  obtain ⟨⟨⟨⟨-, hperm⟩, -⟩, -⟩, -⟩ := h
  exact hperm

theorem mem_resolveOrder {p : Params} (h : p.wf = true) (k : Endpoint) : k ∈ p.resolveOrder :=
  (resolveOrder_perm h).mem_iff.2 (by cases k <;> decide)

theorem nodup_resolveOrder {p : Params} (h : p.wf = true) : p.resolveOrder.Nodup :=
  (resolveOrder_perm h).nodup_iff.2 (by decide)

/-- With nothing resolved the whole order is missing. -/
theorem lacks_resolveOrder {p : Params} (h : p.wf = true) : Handles.unresolved.lacks p.resolveOrder = true :=
  lacks_iff.2 fun k => by simp [mem_resolveOrder h k]

/-! ### Coherence, by the operation in progress -/

/-- Nothing in progress: IDLE, READY or CLOSED with their handles. -/
theorem coherent_settled_iff (h : s.suspended = none) :
    s.coherent = true ↔ s.busy = false ∧ s.frameBuf = none ∧
      ((s.session = .idle ∧ s.handles = Handles.unresolved ∧ s.seq = Config.seqReset)
        ∨ (s.session = .ready ∧ s.handles.full = true) ∨ (s.session = .closed ∧ s.handles = Handles.unresolved)) := by
  simp only [State.coherent, h]
  cases s.session <;> simp [and_assoc]

/-- CONNECT at a `Resolve`. -/
theorem coherent_resolving_iff {k : Endpoint} {later : List Endpoint} (h : s.suspended = some (.resolving k later)) :
    s.coherent = true ↔ s.busy = true ∧ s.frameBuf = none ∧ s.session = .handshaking ∧ s.seq = Config.seqReset ∧
      s.handles.lacks (k :: later) = true ∧ (k :: later).Nodup := by
  simp only [State.coherent, h, Bool.and_eq_true, beq_iff_eq, decide_eq_true_eq, Option.isNone_iff_eq_none, and_assoc]

/-- What `stagedOnly` asks of a staged string. -/
theorem stagedOnly_iff {ok : Bytes → Bool} : s.stagedOnly ok = true ↔ ∀ v, s.frameBuf = some v → ok v = true := by
  unfold State.stagedOnly
  split
  · next h => simp [h]
  · next v h => simp [h]

/-- CONNECT at a handshake string. -/
theorem coherent_handshake_iff {w : HandshakeString} (h : s.suspended = some (.handshake w)) :
    s.coherent = true ↔ s.busy = true ∧ s.session = .handshaking ∧ s.seq = Config.seqReset ∧ s.handles.full = true ∧
      ∀ v, s.frameBuf = some v → v = w.bytes s.params := by
  simp only [State.coherent, h, Bool.and_eq_true, beq_iff_eq, stagedOnly_iff, and_assoc]

/-- CMD at its write. -/
theorem coherent_command_iff (h : s.suspended = some .command) :
    s.coherent = true ↔ s.busy = true ∧ s.session = .ready ∧ s.handles.full = true ∧
      ∀ v, s.frameBuf = some v → isFrame v = true := by
  simp only [State.coherent, h, Bool.and_eq_true, beq_iff_eq, stagedOnly_iff, and_assoc]

/-- BUSY is set exactly while an operation is in progress (R25). -/
theorem suspended_eq_none (hc : s.coherent = true) (hb : s.busy = false) : s.suspended = none := by
  cases hs : s.suspended with
  | none => rfl
  | some p =>
    refine absurd hb (Bool.not_eq_false _ ▸ ?_)
    cases p with
    | resolving k later => exact ((coherent_resolving_iff hs).1 hc).1
    | handshake w => exact ((coherent_handshake_iff hs).1 hc).1
    | command => exact ((coherent_command_iff hs).1 hc).1

/-- In IDLE nothing is resolved and SEQ is 0. -/
theorem coherent_idle (hc : s.coherent = true) (hb : s.busy = false) (hs : s.session = .idle) :
    s.handles = Handles.unresolved ∧ s.seq = Config.seqReset := by
  obtain ⟨-, -, ⟨-, hh⟩ | ⟨hr, -⟩ | ⟨hr, -⟩⟩ := (coherent_settled_iff (suspended_eq_none hc hb)).1 hc
  · exact hh
  · simp [hs] at hr
  · simp [hs] at hr

/-- In READY every handle is resolved. -/
theorem coherent_ready (hc : s.coherent = true) (hb : s.busy = false) (hs : s.session = .ready) :
    s.handles.full = true := by
  obtain ⟨-, -, ⟨hr, -⟩ | ⟨-, hh⟩ | ⟨hr, -⟩⟩ := (coherent_settled_iff (suspended_eq_none hc hb)).1 hc
  · simp [hs] at hr
  · exact hh
  · simp [hs] at hr

/-! ### CONNECT's own steps: what they can do and what they leave -/

/-- Line 2 of CONNECT: the next `Resolve`, or HS-A staged, after the subscription where the parameter puts it there. -/
theorem resolveNext_next {later : List Endpoint} (h : s.resolveNext later = .next t) :
    (∃ k ks, later = k :: ks ∧ t = s.callResolve k ks) ∨ (later = [] ∧
      ((s.params.subscribePoint = .afterResolve ∧ ∃ hn, s.handles.notify = some hn ∧
          t = (s.emit (.subscribe hn)).stageHandshake .hsA)
        ∨ (s.params.subscribePoint ≠ .afterResolve ∧ t = s.stageHandshake .hsA))) := by
  cases later with
  | nil => exact .inr ⟨rfl, State.resolvedAll_next h⟩
  | cons k ks => exact .inl ⟨k, ks, rfl, (Host.Outcome.next.inj h).symm⟩

/-- A handshake string acknowledged: the next one staged, or READY after the third, with the subscription where the
parameter puts it there. -/
theorem handshakeNext_next {w : HandshakeString} (h : s.handshakeNext w = .next t) :
    (∃ w', t = s.stageHandshake w') ∨ (w = .hsW ∧
      ((s.params.subscribePoint = .afterHandshake ∧ ∃ hn, s.handles.notify = some hn ∧
          t = { s with session := .ready, busy := false, suspended := none
                       trace := .result .ok :: .subscribe hn :: s.trace })
        ∨ (s.params.subscribePoint ≠ .afterHandshake ∧
          t = { s with session := .ready, busy := false, suspended := none, trace := .result .ok :: s.trace }))) := by
  cases w with
  | hsA => exact .inl ⟨.hsT, (Host.Outcome.next.inj h).symm⟩
  | hsT => exact .inl ⟨.hsW, (Host.Outcome.next.inj h).symm⟩
  | hsW => exact .inr ⟨rfl, State.handshakeDone_next h⟩

/-- What CONNECT's own steps leave unchanged. -/
structure ConnectFrame (s t : State) : Prop where
  seq : t.seq = s.seq
  handles : t.handles = s.handles
  params : t.params = s.params
  writes : t.writes = s.writes

theorem resolveNext_frame {later : List Endpoint} (h : s.resolveNext later = .next t) : ConnectFrame s t := by
  obtain ⟨k, ks, -, rfl⟩ | ⟨-, ⟨-, hn, -, rfl⟩ | ⟨-, rfl⟩⟩ := resolveNext_next h <;>
    exact ⟨rfl, rfl, rfl, by simp [State.writes]⟩

theorem handshakeNext_frame {w : HandshakeString} (h : s.handshakeNext w = .next t) : ConnectFrame s t := by
  obtain ⟨w', rfl⟩ | ⟨-, ⟨-, hn, -, rfl⟩ | ⟨-, rfl⟩⟩ := handshakeNext_next h <;>
    exact ⟨rfl, rfl, rfl, by simp [State.writes]⟩

/-- Line 2 of CONNECT stays in its session. -/
theorem resolveNext_session {later : List Endpoint} (h : s.resolveNext later = .next t) : t.session = s.session := by
  obtain ⟨k, ks, -, rfl⟩ | ⟨-, ⟨-, hn, -, rfl⟩ | ⟨-, rfl⟩⟩ := resolveNext_next h <;> rfl

/-- SESSION after an acknowledged handshake write: unchanged, or READY after the third. -/
theorem handshakeNext_session {w : HandshakeString} (h : s.handshakeNext w = .next t) :
    t.session = s.session ∨ (w = .hsW ∧ t.session = .ready) := by
  obtain ⟨w', rfl⟩ | ⟨hw, ⟨-, hn, -, rfl⟩ | ⟨-, rfl⟩⟩ := handshakeNext_next h
  · exact .inl rfl
  · exact .inr ⟨hw, rfl⟩
  · exact .inr ⟨hw, rfl⟩

/-! ### Every step keeps the parameters -/

theorem params_of_move (m : Move s t) : t.params = s.params := by
  cases m
  case connect h => exact (resolveNext_frame h).params
  case handle h => exact (resolveNext_frame h).params
  case acknowledged h => exact (handshakeNext_frame h).params
  case notFound => exact State.abort_params _ _
  case handshakeErr => exact State.abort_params _ _
  all_goals rfl

/-- Settles O49: no move writes the parameters. -/
theorem paramsKept : Obligations.ParamsKept := by
  intro s t h
  obtain ⟨d, m⟩ := move_of_step h
  exact (params_of_move m).trans rfl

/-! ### Every step keeps the invariant -/

/-- An abort leaves the block closed with nothing in progress. -/
theorem coherent_abort (hf : s.frameBuf = none) (rest : List Input) (r : Result) :
    (State.abort { s with inputs := rest } r).coherent = true :=
  (coherent_settled_iff (State.abort_suspended _ r)).2
    ⟨State.abort_busy _ r, (State.abort_frameBuf _ r).trans hf,
      .inr (.inr ⟨State.abort_session _ r, State.abort_handles _ r⟩)⟩

/-- Line 2 of CONNECT, from a state in which exactly the endpoints still to be resolved have no handle. -/
theorem coherent_resolveNext {later : List Endpoint} (h : s.resolveNext later = .next t) (hb : s.busy = true)
    (hf : s.frameBuf = none) (hs : s.session = .handshaking) (hq : s.seq = Config.seqReset)
    (hl : s.handles.lacks later = true) (hnd : later.Nodup) : t.coherent = true := by
  obtain ⟨k, ks, rfl, rfl⟩ | ⟨rfl, ⟨-, hn, -, rfl⟩ | ⟨-, rfl⟩⟩ := resolveNext_next h
  · exact (coherent_resolving_iff rfl).2 ⟨hb, hf, hs, hq, hl, hnd⟩
  · exact (coherent_handshake_iff rfl).2 ⟨hb, hs, hq, full_of_lacks_nil hl, fun v hv => (Option.some.inj hv).symm⟩
  · exact (coherent_handshake_iff rfl).2 ⟨hb, hs, hq, full_of_lacks_nil hl, fun v hv => (Option.some.inj hv).symm⟩

/-- Lines 4 to 7 of CONNECT. -/
theorem coherent_handshakeNext {w : HandshakeString} (h : s.handshakeNext w = .next t) (hb : s.busy = true)
    (hf : s.frameBuf = none) (hs : s.session = .handshaking) (hq : s.seq = Config.seqReset)
    (hfull : s.handles.full = true) : t.coherent = true := by
  obtain ⟨w', rfl⟩ | ⟨-, ⟨-, hn, -, rfl⟩ | ⟨-, rfl⟩⟩ := handshakeNext_next h
  · exact (coherent_handshake_iff rfl).2 ⟨hb, hs, hq, hfull, fun v hv => (Option.some.inj hv).symm⟩
  · exact (coherent_settled_iff rfl).2 ⟨rfl, hf, .inr (.inl ⟨rfl, hfull⟩)⟩
  · exact (coherent_settled_iff rfl).2 ⟨rfl, hf, .inr (.inl ⟨rfl, hfull⟩)⟩

/-- A hand-over empties the frame buffer. -/
theorem coherent_handOver (hc : s.coherent = true) {p : Suspended} {k : Endpoint} {v : Bytes}
    (hplace : Place s.params p k v) (hp : s.suspended = some p) (tr : List Output) :
    State.coherent { s with frameBuf := none, trace := tr } = true := by
  cases hplace with
  | frame =>
    obtain ⟨hb, hs, hfull, -⟩ := (coherent_command_iff hp).1 hc
    exact (coherent_command_iff (s := { s with frameBuf := none, trace := tr }) hp).2
      ⟨hb, hs, hfull, fun v hv => nomatch hv⟩
  | handshake w =>
    obtain ⟨hb, hs, hq, hfull, -⟩ := (coherent_handshake_iff hp).1 hc
    exact (coherent_handshake_iff (s := { s with frameBuf := none, trace := tr }) hp).2
      ⟨hb, hs, hq, hfull, fun v hv => nomatch hv⟩

/-- R22 to R25: every move keeps the registers in agreement. -/
theorem coherent_of_move (hp : s.params.wf = true) (hc : s.coherent = true) (m : Move s t) : t.coherent = true := by
  cases m
  case handOver hplace _ hsus _ _ => exact coherent_handOver hc hplace hsus _
  case connect hf ha _ _ hs h =>
    have hh := (coherent_idle hc (State.not_busy_of_accepts ha) hs).1
    have hl : s.handles.lacks s.params.resolveOrder = true := hh ▸ lacks_resolveOrder hp
    exact coherent_resolveNext h rfl hf rfl rfl hl (nodup_resolveOrder hp)
  case cmdOversized hf ha _ _ hs _ =>
    have hfull := coherent_ready hc (State.not_busy_of_accepts ha) hs
    exact (coherent_settled_iff rfl).2 ⟨rfl, hf, .inr (.inl ⟨hs, hfull⟩)⟩
  case cmdStaged ha _ _ hs he =>
    have hfull := coherent_ready hc (State.not_busy_of_accepts ha) hs
    refine (coherent_command_iff rfl).2 ⟨rfl, hs, hfull, ?_⟩
    rintro v hv
    obtain rfl := Option.some.inj hv
    exact isFrame_of_encodeFrame he
  case disconnect hf ha _ _ _ =>
    have hb := State.not_busy_of_accepts ha
    have hsus := suspended_eq_none hc hb
    refine (coherent_settled_iff ?_).2 ⟨hb, hf, .inr (.inr ⟨rfl, rfl⟩)⟩
    exact hsus
  case handle hw h =>
    obtain ⟨hb, hf, hsus⟩ := State.awaiting_eq_some.1 hw
    obtain ⟨-, -, hs, hq, hl, hnd⟩ := (coherent_resolving_iff hsus).1 hc
    exact coherent_resolveNext h hb hf hs hq (lacks_set hl hnd _) hnd.of_cons
  case acknowledged hw h =>
    obtain ⟨hb, hf, hsus⟩ := State.awaiting_eq_some.1 hw
    obtain ⟨-, hs, hq, hfull, -⟩ := (coherent_handshake_iff hsus).1 hc
    exact coherent_handshakeNext h hb hf hs hq hfull
  case notFound hw => exact coherent_abort (State.awaiting_eq_some.1 hw).2.1 _ _
  case handshakeErr hw => exact coherent_abort (State.awaiting_eq_some.1 hw).2.1 _ _
  case cmdDone hw =>
    obtain ⟨-, hf, hsus⟩ := State.awaiting_eq_some.1 hw
    obtain ⟨-, hs, hfull, -⟩ := (coherent_command_iff hsus).1 hc
    exact (coherent_settled_iff rfl).2 ⟨rfl, hf, .inr (.inl ⟨hs, hfull⟩)⟩
  case reset => rfl
  case reply => exact hc
  case deliver => exact hc
  case drop => exact hc
  case still => exact hc
  case present => exact hc

/-- R54, R93, R141: the staged string is one the block may write. -/
theorem fine_of_staged (hc : s.coherent = true) {p : Suspended} {k : Endpoint} {v : Bytes} (hplace : Place s.params p k v)
    (hp : s.suspended = some p) (hv : s.frameBuf = some v) (h : Handle) :
    Output.fine s.params (.write h v true) = true := by
  cases hplace with
  | frame =>
    obtain ⟨-, -, -, hstaged⟩ := (coherent_command_iff hp).1 hc
    simp [Output.fine, hstaged _ hv]
  | handshake w => cases w <;> simp [Output.fine, HandshakeString.bytes]

/-- Line 2 of CONNECT writes nothing. -/
theorem fine_resolveNext {later : List Endpoint} {p : Params} (h : s.resolveNext later = .next t)
    (hw : s.trace.all (Output.fine p) = true) : t.trace.all (Output.fine p) = true := by
  obtain ⟨k, ks, -, rfl⟩ | ⟨-, ⟨-, hn, -, rfl⟩ | ⟨-, rfl⟩⟩ := resolveNext_next h <;> simpa [Output.fine] using hw

/-- The step after an acknowledged handshake write writes nothing. -/
theorem fine_handshakeNext {w : HandshakeString} {p : Params} (h : s.handshakeNext w = .next t)
    (hw : s.trace.all (Output.fine p) = true) : t.trace.all (Output.fine p) = true := by
  obtain ⟨w', rfl⟩ | ⟨-, ⟨-, hn, -, rfl⟩ | ⟨-, rfl⟩⟩ := handshakeNext_next h <;> simpa [Output.fine] using hw

/-- An abort writes nothing. -/
theorem fine_abort {p : Params} (r : Result) (hw : s.trace.all (Output.fine p) = true) :
    (s.abort r).trace.all (Output.fine p) = true := by
  rw [State.abort_trace]
  split <;> exact hw

/-- Every move writes only what the block may write. -/
theorem writes_fine_of_move (hc : s.coherent = true) (hw : s.trace.all (Output.fine s.params) = true) (m : Move s t) :
    t.trace.all (Output.fine s.params) = true := by
  cases m
  case handOver hplace _ hsus hv _ =>
    simp only [List.all_cons, Bool.and_eq_true]
    exact ⟨fine_of_staged hc hplace hsus hv _, hw⟩
  case connect h => exact fine_resolveNext h hw
  case handle h => exact fine_resolveNext h hw
  case acknowledged h => exact fine_handshakeNext h hw
  case notFound => exact fine_abort (s := { s with inputs := _ }) _ hw
  case handshakeErr => exact fine_abort (s := { s with inputs := _ }) _ hw
  case reset => rfl
  all_goals exact hw

/-- The invariant does not read the draws. -/
theorem inv_turns (h : s.Inv) (d : List Bool) : State.Inv { s with turns := d } :=
  ⟨h.params, h.coherent, h.writes⟩

theorem inv_of_move (h : s.Inv) (m : Move s t) : t.Inv where
  params := by rw [params_of_move m]; exact h.params
  coherent := coherent_of_move h.params h.coherent m
  writes := by rw [params_of_move m]; exact writes_fine_of_move h.coherent h.writes m

/-- Settles O51: a step is a move, and every move keeps the three parts of the invariant. -/
theorem stepKeepsInv : Obligations.StepKeepsInv := by
  intro s t h hstep
  obtain ⟨d, m⟩ := move_of_step hstep
  exact inv_of_move (inv_turns h d) m

/-- Settles O50: the three parts, by evaluation. -/
theorem resetInv : Obligations.ResetInv := ⟨by decide, by decide, rfl⟩

end Sys2Proof.Proofs
end

section
/-! What single steps do in the states of the invariant (10_state.md R23, R24; 20_memory.md R54, R61, R66; 42_session_ops.md
R173; 60_exceptions.md R193, R194, R200). -/

namespace Sys2Proof.Proofs

open Sys2Proof.Machine

variable {s t : State}

/-! ### A block that is not busy, and one that has closed -/

/-- R160: in a coherent state an idle block accepts and has nothing staged. -/
theorem accepts_of_not_busy (hc : s.coherent = true) (hb : s.busy = false) : s.frameBuf = none ∧ s.accepts = true := by
  obtain ⟨-, hf, hsession⟩ := (coherent_settled_iff (suspended_eq_none hc hb)).1 hc
  refine ⟨hf, State.accepts_of_idle hb ?_⟩
  obtain ⟨hs, -⟩ | ⟨hs, -⟩ | ⟨hs, -⟩ := hsession <;> simp [hs]

/-- R25: in IDLE and CLOSED nothing is in progress. -/
theorem not_busy_of_idle_or_closed (hc : s.coherent = true) (hs : s.session = .idle ∨ s.session = .closed) :
    s.busy = false := by
  obtain hsus | ⟨p, hsus⟩ := s.suspended.eq_none_or_eq_some
  · exact ((coherent_settled_iff hsus).1 hc).1
  cases p with
  | resolving k later =>
    obtain ⟨-, -, hh, -⟩ := (coherent_resolving_iff hsus).1 hc
    simp [hh] at hs
  | handshake w =>
    obtain ⟨-, hh, -⟩ := (coherent_handshake_iff hsus).1 hc
    simp [hh] at hs
  | command =>
    obtain ⟨-, hh, -⟩ := (coherent_command_iff hsus).1 hc
    simp [hh] at hs

/-- A block that is not busy waits for no answer. -/
theorem awaiting_ne_some_of_not_busy (hb : s.busy = false) (p : Suspended) : s.awaiting ≠ some p := fun h =>
  Bool.false_ne_true (hb.symm.trans (State.awaiting_eq_some.1 h).1)

/-! ### Aborts -/

/-- R161: where SEQ is 0 an abort is this state. -/
theorem abort_eq (hq : s.seq = Config.seqReset) (r : Result) :
    s.abort r = { s with
      session := .closed, handles := Handles.unresolved, busy := false, suspended := none, seq := 0
      trace := .result r :: (if s.params.abortReleasesTransport then .release :: s.trace else s.trace) } := by
  unfold State.abort
  split <;> simp [State.close, State.emit, State.reply, hq, Config.seqReset]

/-- Settles O18: the step aborts CONNECT, where the invariant has SEQ at 0. -/
theorem notFoundAborts : Obligations.NotFoundAborts := by
  intro s k later rest h hsus hi
  obtain ⟨hb, hf, -, hq, -⟩ := (coherent_resolving_iff hsus).1 h.coherent
  rw [step_notFound (State.awaiting_eq_some.2 ⟨hb, hf, hsus⟩) hi, abort_eq (s := { s with inputs := rest }) hq]

/-- Settles O20: the step aborts CONNECT, where the invariant has SEQ at 0. -/
theorem handshakeWriteFails : Obligations.HandshakeWriteFails := by
  intro s w kind rest h hsus hf hi
  obtain ⟨hb, -, hq, -⟩ := (coherent_handshake_iff hsus).1 h.coherent
  rw [step_handshakeErr (State.awaiting_eq_some.2 ⟨hb, hf, hsus⟩) hi, abort_eq (s := { s with inputs := rest }) hq]

/-! ### The hand-over of what is staged -/

/-- R93: a handshake string is read as itself. -/
theorem decodeWhole_self (v : Bytes) (i : Instr) : decodeWhole v i v = .ok i :=
  if_pos rfl

/-- R90 to R92: at its endpoint each handshake string is read as its instruction. -/
theorem decode_handshake (p : Params) (w : HandshakeString) :
    decode p (.wire w.endpoint) (w.bytes p) = .ok w.instr := by
  cases w with
  | hsA => exact decodeWhole_self Config.antidosToken .hsA
  | hsT => exact decodeWhole_self p.txpowerBytes .hsT
  | hsW => exact decodeWhole_self Config.wakecpuByte .hsW

/-- R161 lines 4 to 6: a staged handshake string goes to its endpoint. -/
theorem step_handshake_staged {w : HandshakeString} {h : Handle} (hb : s.busy = true)
    (hsus : s.suspended = some (.handshake w)) (hv : s.frameBuf = some (w.bytes s.params))
    (hh : s.handles.get w.endpoint = some h) :
    step s = .next { s with frameBuf := none, trace := .write h (w.bytes s.params) true :: s.trace } := by
  have hk : s.writePort = some w.endpoint := by rw [State.writePort, hsus]
  have hexec : exec w.instr s = s.charWrite (.handshake w) w.endpoint (w.bytes s.params) := by cases w <;> rfl
  rw [step_of_staged hv hk, runWord_of_decode (decode_handshake s.params w), hexec]
  exact State.charWrite_next.2 ⟨hb, hsus, hv, h, hh, rfl⟩

/-- R163 line 4: a staged frame goes to `roll`. -/
theorem step_frame_staged {v : Bytes} {h : Handle} (hb : s.busy = true) (hsus : s.suspended = some .command)
    (hv : s.frameBuf = some v) (hframe : isFrame v = true) (hh : s.handles.get .roll = some h) :
    step s = .next { s with frameBuf := none, trace := .write h v true :: s.trace } := by
  have hk : s.writePort = some .roll := by rw [State.writePort, hsus]
  obtain ⟨x, hx⟩ := exists_operands_of_isFrame hframe
  obtain ⟨len, c, hd, -⟩ := encodedFrameWellFormed s.params x v Config.lmax hx
  have hexec := State.charWrite_next.2 ⟨hb, hsus, hv, h, hh, rfl⟩
  rw [step_of_staged hv hk, runWord_of_decode hd, ← hexec, ← (wireEncodeDecode s.params .roll v _ hd).1]
  rfl

/-- Settles O47: only CONNECT at a handshake string and CMD have something staged, and their handles are held. -/
theorem stagedIsHandedOver : Obligations.StagedIsHandedOver := by
  intro s v h hv
  obtain hsus | ⟨p, hsus⟩ := s.suspended.eq_none_or_eq_some
  · exact absurd (hv.symm.trans ((coherent_settled_iff hsus).1 h.coherent).2.1) (by simp)
  cases p with
  | resolving k later => exact absurd (hv.symm.trans ((coherent_resolving_iff hsus).1 h.coherent).2.1) (by simp)
  | handshake w =>
    obtain ⟨hb, -, -, hfull, hstaged⟩ := (coherent_handshake_iff hsus).1 h.coherent
    obtain rfl := hstaged v hv
    obtain ⟨hw, hh⟩ := full_iff.1 hfull w.endpoint
    exact ⟨w.endpoint, hw, hh, .inr ⟨w, hsus, rfl, rfl⟩, step_handshake_staged hb hsus hv hh⟩
  | command =>
    obtain ⟨hb, -, hfull, hstaged⟩ := (coherent_command_iff hsus).1 h.coherent
    obtain ⟨hr, hh⟩ := full_iff.1 hfull .roll
    exact ⟨.roll, hr, hh, .inl ⟨hsus, rfl, hstaged v hv⟩, step_frame_staged hb hsus hv (hstaged v hv) hh⟩

/-! ### Steps that always answer -/

/-- With `HANDLE[notify]` held where it is the last, line 2 of CONNECT goes on. -/
theorem exists_resolveNext {later : List Endpoint} (h : later = [] → ∃ hn, s.handles.notify = some hn) :
    ∃ t, s.resolveNext later = .next t ∧ t.port = s.port ∧ t.inputs = s.inputs := by
  cases later with
  | cons k ks => exact ⟨_, rfl, rfl, rfl⟩
  | nil =>
    obtain ⟨hn, hh⟩ := h rfl
    by_cases hp : s.params.subscribePoint = .afterResolve
    · exact ⟨_, resolvedAll_afterResolve hp hh, rfl, rfl⟩
    · exact ⟨_, resolvedAll_not_afterResolve hp, rfl, rfl⟩

/-- With `HANDLE[notify]` held CONNECT goes on after each handshake string. -/
theorem exists_handshakeNext {hn : Handle} (hh : s.handles.notify = some hn) (w : HandshakeString) :
    ∃ t, s.handshakeNext w = .next t := by
  cases w with
  | hsA => exact ⟨_, rfl⟩
  | hsT => exact ⟨_, rfl⟩
  | hsW =>
    by_cases hp : s.params.subscribePoint = .afterHandshake
    · exact ⟨_, handshakeDone_afterHandshake hp hh⟩
    · exact ⟨_, handshakeDone_not_afterHandshake hp⟩

/-- R160 to R165, R97: with well-formed parameters an accepting block completes the first step of every request, and leaves
the rest of the port and the inputs. -/
theorem exists_exec_request (hp : s.params.wf = true) (ha : s.accepts = true) {i : Instr} (hi : i.channel = .request) :
    ∃ t, exec i s = .next t ∧ t.port = s.port ∧ t.inputs = s.inputs := by
  have hb := State.not_busy_of_accepts ha
  have hns := State.not_handshaking_of_accepts ha
  cases i <;> cases hi
  case connect =>
    cases hs : s.session with
    | idle =>
      rw [exec_connect_in_idle hs hb]
      exact exists_resolveNext fun hnil => absurd (mem_resolveOrder hp .roll) (by simp [hnil])
    | ready => exact ⟨_, exec_connect_in_ready hb hs, rfl, rfl⟩
    | closed => exact ⟨_, exec_in_closed hb hs (.inl rfl), rfl, rfl⟩
    | handshaking => exact absurd hs hns
  case cmd did cid payload a r =>
    cases hs : s.session with
    | idle => exact ⟨_, exec_cmd_in_idle hs hb .., rfl, rfl⟩
    | ready =>
      cases he : encodeFrame { did, cid, payload, a, r, seq := s.seq } with
      | none => exact ⟨_, exec_cmd_of_oversized hb hs he, rfl, rfl⟩
      | some f => exact ⟨_, exec_cmd_of_frame hb hs he, rfl, rfl⟩
    | closed => exact ⟨_, exec_in_closed hb hs (.inr (.inr ⟨did, cid, payload, a, r, rfl⟩)), rfl, rfl⟩
    | handshaking => exact absurd hs hns
  case disconnect =>
    cases hs : s.session with
    | idle => exact ⟨_, exec_disconnect_in_idle hs hb, rfl, rfl⟩
    | ready => exact ⟨_, exec_disconnect_in_ready hb hs, rfl, rfl⟩
    | closed => exact ⟨_, exec_in_closed hb hs (.inr (.inl rfl)), rfl, rfl⟩
    | handshaking => exact absurd hs hns
  case encode => exact ⟨_, exec_encode_of_accepts ha .., rfl, rfl⟩
  case decode => exact ⟨_, exec_decode_of_accepts ha _, rfl, rfl⟩
  case reserved5 => exact ⟨_, exec_reserved ha (.inl rfl), rfl, rfl⟩
  case reserved6 => exact ⟨_, exec_reserved ha (.inr (.inl rfl)), rfl, rfl⟩
  case reserved7 => exact ⟨_, exec_reserved ha (.inr (.inr rfl)), rfl, rfl⟩

/-- R172: NOTIFY always answers and changes nothing but the notification output. -/
theorem exists_exec_notify (h : Handle) (data : Bytes) (s : State) :
    ∃ tr, exec (.notify h data) s = .next { s with trace := tr } ∧ (tr = s.trace ∨ tr = .deliver h data :: s.trace) := by
  obtain ⟨hdeliver, hdrop⟩ := notifyEffect h data s
  by_cases hs : s.session = .handshaking ∨ s.session = .ready
  · exact ⟨_, hdeliver hs, .inr rfl⟩
  · exact ⟨s.trace, hdrop (idle_or_closed hs), .inl rfl⟩

/-- Settles O34: the draw says which of the two the step runs, and both always answer. -/
theorem requestOrNotificationFirst : Obligations.RequestOrNotificationFirst := by
  intro s bs e ps rest i n ds h hb hport hinputs hdi hdn
  obtain ⟨hf, ha⟩ := accepts_of_not_busy h.coherent hb
  have hns := State.not_handshaking_of_accepts ha
  refine ⟨?event, ?request⟩
  case event =>
    obtain ⟨k, data, rfl⟩ := notify_of_decodeEvent hdn
    obtain ⟨tr, hexec, -⟩ := exists_exec_notify k data { s with inputs := rest, turns := ds }
    refine ⟨_, Eq.trans ?_ hexec, hexec, hport, rfl⟩
    exact ((stepRunsInstruction { s with turns := true :: ds } e _).2.2 rest hf hinputs hdn).2 ds hb hns
      (by simp [hport]) rfl
  case request =>
    obtain ⟨t, hexec, htport, htinputs⟩ := exists_exec_request (s := { s with port := ps, turns := ds }) h.params ha
      (channel_of_decodeRequest hdi)
    refine ⟨t, Eq.trans ?_ hexec, hexec, htport, htinputs.trans hinputs⟩
    exact ((stepRunsInstruction { s with turns := false :: ds } bs i).2.1 ps hf hb hns hport hdi).2 e
      (congrArg List.head? hinputs) (by simp)

/-! ### No use of an unresolved handle -/

/-- R54: CONNECT's own steps find the handles they use. -/
theorem takeInput_ne_unresolvedHandle (hc : s.coherent = true) : s.takeInput ≠ .fault .unresolvedHandle := by
  cases hi : s.inputs with
  | nil => simp [State.takeInput, hi]
  | cons input rest =>
    cases input with
    | request bs => simp [takeInput_request hi]
    | event bs =>
      rw [takeInput_event hi, State.runWord]
      split
      · next i hd =>
        obtain ⟨k, data, rfl⟩ := notify_of_decodeEvent hd
        obtain ⟨tr, hexec, -⟩ := exists_exec_notify k data { s with inputs := rest }
        simp [hexec]
      · simp
    | resolved answer =>
      rw [takeInput_resolved hi, State.onResolved]
      split
      · next k later hw =>
        obtain ⟨-, -, hsus⟩ := State.awaiting_eq_some.1 hw
        obtain ⟨-, -, -, -, hl, hnd⟩ := (coherent_resolving_iff hsus).1 hc
        cases answer with
        | notFound => simp
        | handle h =>
          obtain ⟨t, ht, -⟩ := exists_resolveNext (s := State.setHandle { s with inputs := rest } k h) (later := later)
            fun hnil => full_iff.1 (full_of_lacks_nil (hnil ▸ lacks_set hl hnd h)) .notify
          simp [ht]
      all_goals simp
    | written answer =>
      rw [takeInput_written hi]
      unfold State.onWritten
      split
      · next w hw =>
        obtain ⟨-, -, hsus⟩ := State.awaiting_eq_some.1 hw
        obtain ⟨-, -, -, hfull, -⟩ := (coherent_handshake_iff hsus).1 hc
        obtain ⟨hn, hh⟩ := full_iff.1 hfull .notify
        cases answer with
        | ok =>
          obtain ⟨t, ht⟩ := exists_handshakeNext (s := { s with inputs := rest }) hh w
          simp [ht]
        | err kind => simp
      · cases answer <;> simp
      all_goals simp
    | reset =>
      rw [takeInput_reset hi, State.onReset]
      split <;> simp

/-- Settles O48: a staged string is handed over, an accepted request completes, and an input finds its handle. -/
theorem noUnresolvedHandle : Obligations.NoUnresolvedHandle := by
  intro s h
  cases hf : s.frameBuf with
  | some v =>
    obtain ⟨k, hk, -, -, hstep⟩ := stagedIsHandedOver s v h hf
    simp [hstep]
  | none =>
    by_cases hreq : s.accepts = false ∨ s.port = []
    · rw [step_of_no_request hf hreq]
      exact takeInput_ne_unresolvedHandle h.coherent
    · obtain ⟨ha, hport⟩ := not_or.1 hreq
      rw [Bool.not_eq_false] at ha
      obtain ⟨bs, ps, hport⟩ := List.exists_cons_of_ne_nil hport
      obtain ⟨d, -, hdrawn⟩ := exists_drawn s
      cases hfirst : s.eventFirst with
      | true =>
        rw [step_of_eventFirst hf ha hport hfirst, hdrawn]
        exact takeInput_ne_unresolvedHandle (s := { s with turns := d }) h.coherent
      | false =>
        rw [step_of_request hf ha hport hfirst, hdrawn, State.runWord]
        split
        · next i hd =>
          obtain ⟨t, ht, -⟩ := exists_exec_request (s := { s with turns := d, port := ps }) h.params ha
            (channel_of_decodeRequest hd)
          simp [ht]
        · simp

end Sys2Proof.Proofs
end

section
/-! What changes a register, a handle, the session or the list of writes: case analyses on the moves (10_state.md R23, R24;
20_memory.md R66; 42_session_ops.md R173; 60_exceptions.md R203, R204; 70_reset_and_hazards.md R224, R232). -/

namespace Sys2Proof.Proofs

open Sys2Proof.Machine

variable {s t : State}

theorem head?_inputs {i : Input} {rest : List Input} (h : s.inputs = i :: rest) : s.inputs.head? = some i :=
  congrArg List.head? h

theorem head?_port {bs : Bytes} {ps : List Bytes} (h : s.port = bs :: ps) : s.port.head? = some bs :=
  congrArg List.head? h

/-! ### BUSY -/

/-- R224: what a move can do to BUSY while it is set. -/
theorem busy_of_move (hb : s.busy = true) (m : Move s t) :
    t.busy = true ∨ (∃ answer, s.inputs.head? = some (.resolved answer))
      ∨ ∃ answer, s.inputs.head? = some (.written answer) := by
  have hnot : ∀ {p : Prop}, s.accepts = true → p := fun ha =>
    absurd (State.not_busy_of_accepts ha) (by simp [hb])
  cases m
  case handOver => exact .inl hb
  case reply ha _ _ => exact hnot ha
  case connect ha _ _ _ _ => exact hnot ha
  case cmdOversized ha _ _ _ _ => exact hnot ha
  case cmdStaged => exact .inl rfl
  case disconnect ha _ _ _ => exact hnot ha
  case deliver => exact .inl hb
  case drop => exact .inl hb
  case still => exact .inl hb
  case present => exact .inl hb
  case handle hi _ _ => exact .inr (.inl ⟨_, head?_inputs hi⟩)
  case notFound hi _ => exact .inr (.inl ⟨_, head?_inputs hi⟩)
  case acknowledged hi _ _ => exact .inr (.inr ⟨_, head?_inputs hi⟩)
  case handshakeErr hi _ => exact .inr (.inr ⟨_, head?_inputs hi⟩)
  case cmdDone hi _ => exact .inr (.inr ⟨_, head?_inputs hi⟩)
  case reset hnb => exact absurd hb (by simp [hnb])

/-- Settles O35: a block that does not accept lets requests wait, and only an answer clears BUSY. -/
theorem requestsWaitWhileBusy : Obligations.RequestsWaitWhileBusy := by
  intro s
  refine ⟨fun i h hi => ?waits, fun bs rest hb hf hi => ?presented, fun t hb hstep htb => ?ended⟩
  case waits =>
    have ha : s.accepts = false := h.elim not_accepts_of_busy not_accepts_of_handshaking
    exact exec_request_of_not_accepts ha hi
  case presented =>
    rw [step_of_no_request hf (.inl (not_accepts_of_busy hb)), takeInput_request hi]
  case ended =>
    obtain ⟨d, m⟩ := move_of_step hstep
    exact (busy_of_move (s := { s with turns := d }) hb m).resolve_left (by simp [htb])

/-! ### Writes -/

/-- An abort issues no write. -/
theorem writes_abort (s : State) (r : Result) : (s.abort r).writes = s.writes := by
  simp only [State.writes, State.abort_trace]
  split <;> simp

/-- R66: a move adds a write only as the hand-over of what is staged, and only a reset drops the list. -/
theorem writes_of_move (m : Move s t) :
    t.writes = s.writes
      ∨ (s.frameBuf ≠ none ∧ t.busy = true ∧ t.frameBuf = none ∧ t.awaiting ≠ none)
      ∨ (s.frameBuf = none ∧ s.busy = false ∧ s.inputs.head? = some .reset) := by
  cases m
  case handOver p k v h _ hb hsus hv _ =>
    have hwait : State.awaiting { s with frameBuf := none, trace := .write h v true :: s.trace } = some p :=
      State.awaiting_eq_some.2 ⟨hb, rfl, hsus⟩
    exact .inr (.inl ⟨by simp [hv], hb, rfl, by simp [hwait]⟩)
  case connect h => exact .inl (resolveNext_frame h).writes
  case handle h => exact .inl (resolveNext_frame h).writes
  case acknowledged h => exact .inl (handshakeNext_frame h).writes
  case notFound => exact .inl (writes_abort _ _)
  case handshakeErr => exact .inl (writes_abort _ _)
  case reset hi hf hnb => exact .inr (.inr ⟨hf, hnb, head?_inputs hi⟩)
  all_goals left; simp [State.writes]

/-- Settles O38: only a hand-over adds a write; a block that waits has nothing staged and takes no reset. -/
theorem oneWriteOutstanding : Obligations.OneWriteOutstanding := by
  intro s t _ hstep
  obtain ⟨d, m⟩ := move_of_step hstep
  have hcases := writes_of_move m
  refine ⟨fun hne hnoReset => ?issued, fun hwait => ?waiting⟩
  case issued =>
    obtain hsame | ⟨-, hout⟩ | ⟨hf, -, hhead⟩ := hcases
    · exact absurd hsame hne
    · exact hout
    · exact absurd ⟨hf, hhead⟩ hnoReset
  case waiting =>
    obtain ⟨p, hp⟩ := Option.ne_none_iff_exists'.1 hwait
    obtain ⟨hb, hf, -⟩ := State.awaiting_eq_some.1 hp
    obtain hsame | ⟨hstaged, -⟩ | ⟨-, hnb, -⟩ := hcases
    · exact hsame
    · exact absurd hf hstaged
    · exact absurd hb (by simp [show s.busy = false from hnb])

/-! ### SEQ -/

/-- R23: what a move can do to SEQ. -/
theorem seq_of_move (hc : s.coherent = true) (m : Move s t) :
    t.seq = s.seq
      ∨ (t.seq = seqNext s.seq ∧ s.session = .ready ∧ s.busy = false
        ∧ ∃ bs did cid payload a r, s.port.head? = some bs
          ∧ decode s.params .request bs = .ok (.cmd did cid payload a r))
      ∨ (t.seq = 0 ∧ s.busy = false ∧ s.inputs.head? = some .reset) := by
  cases m
  case connect ha _ _ hs h =>
    exact .inl ((resolveNext_frame h).seq.trans (coherent_idle hc (State.not_busy_of_accepts ha) hs).2.symm)
  case cmdOversized ha hport hd hs _ =>
    exact .inr (.inl ⟨rfl, hs, State.not_busy_of_accepts ha, _, _, _, _, _, _, head?_port hport, hd⟩)
  case cmdStaged ha hport hd hs _ =>
    exact .inr (.inl ⟨rfl, hs, State.not_busy_of_accepts ha, _, _, _, _, _, _, head?_port hport, hd⟩)
  case handle h => exact .inl (resolveNext_frame h).seq
  case notFound => exact .inl (State.abort_seq _ _)
  case acknowledged h => exact .inl (handshakeNext_frame h).seq
  case handshakeErr => exact .inl (State.abort_seq _ _)
  case reset hi _ hnb => exact .inr (.inr ⟨rfl, hnb, head?_inputs hi⟩)
  all_goals exact .inl rfl

/-- Settles O39: a step is a move, and CMD and the reset alone change SEQ. -/
theorem seqOnlyByCmd : Obligations.SeqOnlyByCmd := by
  intro s t h hstep
  obtain ⟨d, m⟩ := move_of_step hstep
  exact seq_of_move (s := { s with turns := d }) h.coherent m

/-! ### SESSION -/

/-- In CONNECT the session is HANDSHAKING. -/
theorem session_of_awaiting (hc : s.coherent = true) {p : Suspended} (hw : s.awaiting = some p) (hp : p ≠ .command) :
    s.session = .handshaking := by
  obtain ⟨-, -, hsus⟩ := State.awaiting_eq_some.1 hw
  cases p with
  | resolving k later =>
    obtain ⟨-, -, hs, -⟩ := (coherent_resolving_iff hsus).1 hc
    exact hs
  | handshake w =>
    obtain ⟨-, hs, -⟩ := (coherent_handshake_iff hsus).1 hc
    exact hs
  | command => exact absurd rfl hp

/-- R173: the rows of the table, by the move. -/
theorem session_of_move (hc : s.coherent = true) (m : Move s t) (hne : t.session ≠ s.session) :
    (t.session = .idle ∧ s.busy = false ∧ s.inputs.head? = some .reset)
    ∨ (s.session = .idle ∧ t.session = .handshaking
      ∧ ∃ bs, s.port.head? = some bs ∧ decode s.params .request bs = .ok .connect)
    ∨ (s.session = .handshaking ∧ t.session = .ready ∧ s.awaiting = some (.handshake .hsW)
      ∧ s.inputs.head? = some (.written .ok))
    ∨ (s.session = .handshaking ∧ t.session = .closed ∧ (∃ k later, s.awaiting = some (.resolving k later))
      ∧ s.inputs.head? = some (.resolved .notFound))
    ∨ (s.session = .handshaking ∧ t.session = .closed ∧ (∃ w, s.awaiting = some (.handshake w))
      ∧ ∃ kind, s.inputs.head? = some (.written (.err kind)))
    ∨ (s.session = .ready ∧ t.session = .closed
      ∧ ∃ bs, s.port.head? = some bs ∧ decode s.params .request bs = .ok .disconnect) := by
  cases m
  case connect hport hd hs h => exact .inr (.inl ⟨hs, resolveNext_session h, _, head?_port hport, hd⟩)
  case disconnect hport hd hs => exact .inr (.inr (.inr (.inr (.inr ⟨hs, rfl, _, head?_port hport, hd⟩))))
  case handle h => exact absurd (resolveNext_session h) hne
  case notFound hi hw =>
    exact .inr (.inr (.inr (.inl
      ⟨session_of_awaiting hc hw (by simp), State.abort_session _ _, ⟨_, _, hw⟩, head?_inputs hi⟩)))
  case acknowledged hi hw h =>
    obtain hsame | ⟨rfl, hready⟩ := handshakeNext_session h
    · exact absurd hsame hne
    · exact .inr (.inr (.inl ⟨session_of_awaiting hc hw (by simp), hready, hw, head?_inputs hi⟩))
  case handshakeErr hi hw =>
    exact .inr (.inr (.inr (.inr (.inl
      ⟨session_of_awaiting hc hw (by simp), State.abort_session _ _, ⟨_, hw⟩, _, head?_inputs hi⟩))))
  case reset hi _ hnb => exact .inl ⟨rfl, hnb, head?_inputs hi⟩
  all_goals exact absurd rfl hne

/-- Settles O40: a step is a move, and each move that changes SESSION is a row of the table. -/
theorem sessionTransitions : Obligations.SessionTransitions := by
  intro s t h hstep hne
  obtain ⟨d, m⟩ := move_of_step hstep
  exact session_of_move (s := { s with turns := d }) h.coherent m hne

/-! ### Handles -/

/-- R24: what a move can do to a handle. -/
theorem handles_of_move (hc : s.coherent = true) (m : Move s t) {k : Endpoint} (hne : t.handles.get k ≠ s.handles.get k) :
    (∃ h later, s.awaiting = some (.resolving k later) ∧ s.inputs.head? = some (.resolved (.handle h))
      ∧ s.session = .handshaking ∧ s.handles.get k = none ∧ t.handles.get k = some h)
    ∨ (t.handles = Handles.unresolved ∧ t.session = .closed)
    ∨ (t.handles = Handles.unresolved ∧ s.inputs.head? = some .reset) := by
  cases m
  case connect h => exact absurd (congrArg (·.get k) (resolveNext_frame h).handles) hne
  case disconnect => exact .inr (.inl ⟨rfl, rfl⟩)
  case handle k' later h rest hi hw hnext =>
    have hset : t.handles = s.handles.set k' h := (resolveNext_frame hnext).handles
    have hk : k = k' := by
      by_contra hkk
      exact hne (by rw [hset, Handles.get_set_other _ _ hkk])
    subst hk
    obtain ⟨-, -, hsus⟩ := State.awaiting_eq_some.1 hw
    obtain ⟨-, -, hs, -, hl, -⟩ := (coherent_resolving_iff hsus).1 hc
    exact .inl ⟨h, later, hw, head?_inputs hi, hs, (lacks_iff.1 hl k).1 List.mem_cons_self,
      by rw [hset, Handles.get_set_same]⟩
  case notFound => exact .inr (.inl ⟨State.abort_handles _ _, State.abort_session _ _⟩)
  case acknowledged h => exact absurd (congrArg (·.get k) (handshakeNext_frame h).handles) hne
  case handshakeErr => exact .inr (.inl ⟨State.abort_handles _ _, State.abort_session _ _⟩)
  case reset hi _ _ => exact .inr (.inr ⟨rfl, head?_inputs hi⟩)
  all_goals exact absurd rfl hne

/-- Settles O42: a step is a move, and each move that changes a handle is one of the three. -/
theorem handleChanges : Obligations.HandleChanges := by
  intro s t k h hstep hne
  obtain ⟨d, m⟩ := move_of_step hstep
  exact handles_of_move (s := { s with turns := d }) h.coherent m hne

/-! ### The subscription -/

/-- What `listens` asks: in READY, and with the subscription before the handshake also during it, the transport's
subscription is the one for `HANDLE[notify]`. -/
theorem listens_iff : s.listens = true ↔
    ((s.params.subscribePoint ≠ .external ∧ s.session = .ready)
      ∨ (s.params.subscribePoint = .afterResolve ∧ ∃ w, s.suspended = some (.handshake w)) →
    subscription s.trace = s.handles.notify) := by
  unfold State.listens
  split
  · next hp => simp [hp]
  · next hs hne =>
    have hne : s.params.subscribePoint ≠ .external := hne
    simp [hs, hne]
  · next hp hsus hs => simp [hp, hsus]
  · next hhand hready =>
    simp only [true_iff]
    rintro (⟨-, hs⟩ | ⟨ha, w, hw⟩)
    · exact (hready hs).elim
    · exact absurd hw (hhand w ha)

/-- R161 line 3: line 2 of CONNECT reaches the handshake with the subscription where the parameter puts it there. -/
theorem listens_resolveNext {later : List Endpoint} (h : s.resolveNext later = .next t) (hs : s.session = .handshaking) :
    t.listens = true := by
  have hts : t.session ≠ .ready := by rw [resolveNext_session h, hs]; decide
  refine listens_iff.2 fun hyp => ?_
  obtain ⟨hp, w, hw⟩ := hyp.resolve_left fun hready => hts hready.2
  obtain ⟨k, ks, -, rfl⟩ | ⟨-, ⟨-, hn, hh, rfl⟩ | ⟨hnp, rfl⟩⟩ := resolveNext_next h
  · cases hw
  · exact hh.symm
  · exact absurd hp hnp

/-- R161 lines 4 to 7: the handshake keeps the subscription, or makes it at its end. -/
theorem listens_handshakeNext {w : HandshakeString} (h : s.handshakeNext w = .next t)
    (hsus : s.suspended = some (.handshake w)) (hs : s.session = .handshaking) (hl : s.listens = true) :
    t.listens = true := by
  rw [listens_iff] at hl ⊢
  intro hyp
  obtain ⟨w', rfl⟩ | ⟨-, ⟨-, hn, hh, rfl⟩ | ⟨hnp, rfl⟩⟩ := handshakeNext_next h
  · obtain ⟨-, hready⟩ | ⟨hp, -⟩ := hyp
    · exact absurd (hs.symm.trans hready) (by decide)
    · exact hl (.inr ⟨hp, w, hsus⟩)
  · exact hh.symm
  · obtain ⟨hne, -⟩ | ⟨-, w', hw'⟩ := hyp
    · refine hl (.inr ⟨?_, w, hsus⟩)
      cases hp : s.params.subscribePoint with
      | afterResolve => rfl
      | afterHandshake => exact absurd hp hnp
      | external => exact absurd hp hne
    · cases hw'

/-- A state that is neither READY nor at a handshake string need not listen. -/
theorem listens_of_not_live (hs : t.session ≠ .ready) (hw : ∀ w, t.suspended ≠ some (.handshake w)) :
    t.listens = true :=
  listens_iff.2 fun hyp => absurd hyp (not_or.2 ⟨fun h => hs h.2, fun h => h.2.elim hw⟩)

/-- READY stays subscribed as long as neither a subscription nor a release goes out. -/
theorem listens_of_ready (hl : s.listens = true) (hs : s.session = .ready) (hp : t.params = s.params)
    (htr : subscription t.trace = subscription s.trace) (hh : t.handles = s.handles)
    (hw : ∀ w, t.suspended ≠ some (.handshake w)) : t.listens = true := by
  refine listens_iff.2 fun hyp => ?_
  obtain ⟨hne, -⟩ := hyp.resolve_right fun h => h.2.elim hw
  rw [htr, hh]
  exact listens_iff.1 hl (.inl ⟨hp ▸ hne, hs⟩)

/-- R203, R204: every move keeps the subscription. -/
theorem listens_of_move (hc : s.coherent = true) (hl : s.listens = true) (m : Move s t) : t.listens = true := by
  have hkeep := listens_iff.1 hl
  cases m
  case handOver => exact listens_iff.2 hkeep
  case reply => exact listens_iff.2 hkeep
  case connect h => exact listens_resolveNext h rfl
  case cmdOversized hs _ => exact listens_of_ready hl hs rfl rfl rfl fun w => nofun
  case cmdStaged hs _ => exact listens_of_ready hl hs rfl rfl rfl fun w => nofun
  case disconnect ha _ _ _ =>
    have hsus := suspended_eq_none hc (State.not_busy_of_accepts ha)
    exact listens_of_not_live nofun fun w hw => nomatch hsus.symm.trans hw
  case deliver => exact listens_iff.2 hkeep
  case drop => exact listens_iff.2 hkeep
  case still => exact hl
  case present => exact listens_iff.2 hkeep
  case handle hw h =>
    have hs := session_of_awaiting hc hw (by simp)
    exact listens_resolveNext h hs
  case notFound =>
    exact listens_of_not_live (by simp) (by simp)
  case acknowledged hw h =>
    exact listens_handshakeNext h (State.awaiting_eq_some.1 hw).2.2 (session_of_awaiting hc hw (by simp))
      (listens_iff.2 hkeep)
  case handshakeErr =>
    exact listens_of_not_live (by simp) (by simp)
  case cmdDone hw =>
    obtain ⟨-, -, hsus⟩ := State.awaiting_eq_some.1 hw
    exact listens_of_ready hl ((coherent_command_iff hsus).1 hc).2.1 rfl rfl rfl fun w => nofun
  case reset => exact listens_of_not_live nofun fun w => nofun

/-- Settles O52: a step is a move, and every move keeps the subscription. -/
theorem stepKeepsListening : Obligations.StepKeepsListening := by
  intro s t h hl hstep
  obtain ⟨d, m⟩ := move_of_step hstep
  exact listens_of_move (s := { s with turns := d }) h.coherent hl m

/-! ### A closed instance -/

/-- R232: what a closed instance that no reset awaits keeps, as seen from a state `s0`. -/
structure ClosedLike (s0 s : State) : Prop where
  inv : s.Inv
  session : s.session = .closed
  noReset : .reset ∉ s.inputs
  seq : s.seq = s0.seq
  writes : s.writes = s0.writes
  subscribes : s.subscribes = s0.subscribes
  deliveries : s.deliveries = s0.deliveries

/-- In CLOSED a move answers a request, drops a notification, takes a request in or does nothing. -/
theorem closed_of_move (hc : s.coherent = true) (hs : s.session = .closed) (hno : .reset ∉ s.inputs) (m : Move s t) :
    t.session = .closed ∧ .reset ∉ t.inputs ∧ t.seq = s.seq ∧ t.writes = s.writes ∧ t.subscribes = s.subscribes
      ∧ t.deliveries = s.deliveries := by
  have hb := not_busy_of_idle_or_closed hc (.inr hs)
  cases m
  case handOver hbusy _ _ _ => exact absurd hbusy (by simp [hb])
  case reply => exact ⟨hs, hno, rfl, by simp [State.writes], by simp [State.subscribes], by simp [State.deliveries]⟩
  case connect hidle _ => exact absurd (hs.symm.trans hidle) (by decide)
  case cmdOversized hready _ => exact absurd (hs.symm.trans hready) (by decide)
  case cmdStaged hready _ => exact absurd (hs.symm.trans hready) (by decide)
  case disconnect hready => exact absurd (hs.symm.trans hready) (by decide)
  case deliver hlive => exact absurd hlive (by simp [hs])
  case drop hi _ _ => exact ⟨hs, fun h => hno (hi ▸ List.mem_cons_of_mem _ h), rfl, rfl, rfl, rfl⟩
  case still => exact ⟨hs, hno, rfl, rfl, rfl, rfl⟩
  case present hi => exact ⟨hs, fun h => hno (hi ▸ List.mem_cons_of_mem _ h), rfl, rfl, rfl, rfl⟩
  case handle hw _ => exact absurd hw (awaiting_ne_some_of_not_busy hb _)
  case notFound hw => exact absurd hw (awaiting_ne_some_of_not_busy hb _)
  case acknowledged hw _ => exact absurd hw (awaiting_ne_some_of_not_busy hb _)
  case handshakeErr hw => exact absurd hw (awaiting_ne_some_of_not_busy hb _)
  case cmdDone hw => exact absurd hw (awaiting_ne_some_of_not_busy hb _)
  case reset hi _ _ => exact absurd (hi ▸ List.mem_cons_self) hno

theorem closedLike_step {s0 : State} (h : ClosedLike s0 s) (hstep : step s = .next t) : ClosedLike s0 t := by
  obtain ⟨d, m⟩ := move_of_step hstep
  obtain ⟨hs, hno, hq, hw, hsub, hdel⟩ := closed_of_move (s := { s with turns := d }) h.inv.coherent h.session h.noReset m
  exact ⟨stepKeepsInv s t h.inv hstep, hs, hno, hq.trans h.seq, hw.trans h.writes, hsub.trans h.subscribes,
    hdel.trans h.deliveries⟩

/-- What every step keeps, every run keeps. -/
theorem run_keeps {P : State → Prop} (hstep : ∀ s t, P s → step s = .next t → P t) :
    ∀ (n : Nat) (s t : State), P s → core.run n s = .next t → P t := by
  intro n
  induction n with
  | zero =>
    intro s t hs hrun
    exact Host.Outcome.next.inj hrun ▸ hs
  | succ n ih =>
    intro s t hs hrun
    simp only [Host.Core.run] at hrun
    split at hrun
    · next u hu => exact ih u t (hstep s u hs hu) hrun
    · cases hrun
    · cases hrun

/-- Settles O41: every step keeps a closed instance as it is, so every run does. -/
theorem closedStaysClosed : Obligations.ClosedStaysClosed := by
  intro n s t h hs hno hrun
  have ht := run_keeps (P := ClosedLike s) (fun _ _ => closedLike_step) n s t ⟨h, hs, hno, rfl, rfl, rfl, rfl⟩ hrun
  exact ⟨ht.session, ht.seq, ht.writes, ht.subscribes, ht.deliveries⟩

end Sys2Proof.Proofs
end

section
/-! Runs, and the end of an operation under the fairness of the transport (70_reset_and_hazards.md R236, D25). -/

namespace Sys2Proof.Proofs

open Sys2Proof.Machine

variable {s t u : State}

/-! ### Runs -/

/-- A run begins with a step. -/
theorem run_succ (h : step s = .next t) (n : Nat) : core.run (n + 1) s = core.run n t := by
  simp only [Host.Core.run, core, h]

/-- A run goes on where another one ended. -/
theorem run_add {m : Nat} (h : core.run m s = .next t) (n : Nat) : core.run (m + n) s = core.run n t := by
  induction m generalizing s with
  | zero =>
    obtain rfl := Host.Outcome.next.inj h
    rw [Nat.zero_add]
  | succ m ih =>
    cases hstep : step s with
    | next u =>
      rw [run_succ hstep] at h
      rw [Nat.add_right_comm, run_succ hstep, ih h]
    | fault e => simp [Host.Core.run, core, hstep] at h
    | refused r => simp [Host.Core.run, core, hstep] at h

/-- Two steps. -/
theorem run_two (h : step s = .next t) (h' : step t = .next u) : core.run 2 s = .next u := by
  rw [run_succ h, run_succ h']
  rfl

/-- Every run keeps the invariant. -/
theorem inv_of_run {n : Nat} (h : s.Inv) (hrun : core.run n s = .next t) : t.Inv :=
  run_keeps stepKeepsInv n s t h hrun

/-! ### The end of an operation under fairness -/

/-- A fair transport stays fair. -/
theorem fair_of_step (h : s.Fair) (hstep : step s = .next t) : t.Fair := fun n u hrun =>
  h (n + 1) u ((run_succ hstep n).trans hrun)

/-- An operation is in progress at `p`, the caller having received the results `rs`, and the transport is fair. -/
structure InProgress (rs : List Result) (p : Suspended) (s : State) : Prop where
  inv : s.Inv
  fair : s.Fair
  busy : s.busy = true
  suspended : s.suspended = some p
  results : s.results = rs

/-- Some run ends the operation with one more result. -/
def Ends (rs : List Result) (s : State) : Prop :=
  ∃ n t r, core.run n s = .next t ∧ t.busy = false ∧ t.results = rs ++ [r]

variable {rs : List Result} {p : Suspended}

/-- A step in the operation leads to a state in the operation. -/
theorem inProgress_of_step {q : Suspended} (h : InProgress rs p s) (hstep : step s = .next t) (hb : t.busy = true)
    (hsus : t.suspended = some q) (hres : t.results = s.results) : InProgress rs q t :=
  ⟨stepKeepsInv s t h.inv hstep, fair_of_step h.fair hstep, hb, hsus, hres.trans h.results⟩

theorem ends_of_run {n : Nat} (hrun : core.run n s = .next t) (h : Ends rs t) : Ends rs s := by
  obtain ⟨m, u, r, hm, hu⟩ := h
  exact ⟨n + m, u, r, (run_add hrun m).trans hm, hu⟩

theorem ends_of_step (hstep : step s = .next t) (h : Ends rs t) : Ends rs s :=
  ends_of_run (n := 1) (run_succ hstep 0) h

/-- A step that clears BUSY and gives a result ends the operation. -/
theorem ends_of_last_step {r : Result} (h : InProgress rs p s) (hstep : step s = .next t) (hb : t.busy = false)
    (hres : t.results = s.results ++ [r]) : Ends rs s :=
  ⟨1, t, r, run_succ hstep 0, hb, by rw [hres, h.results]⟩

/-- R68, R224: a request or a notification is taken in and the operation waits on. -/
theorem inProgress_of_passes (h : InProgress rs p s) (hf : s.frameBuf = none) {i : Input} {rest : List Input}
    (hi : s.inputs = i :: rest) (hpass : i.passes = true) :
    ∃ t, step s = .next t ∧ InProgress rs p t ∧ t.frameBuf = none ∧ t.inputs = rest := by
  have hstep := step_of_no_request hf (.inl (not_accepts_of_busy h.busy))
  cases i with
  | request bs =>
    rw [takeInput_request hi] at hstep
    exact ⟨_, hstep, inProgress_of_step h hstep h.busy h.suspended rfl, hf, rfl⟩
  | event bs =>
    rw [takeInput_event hi] at hstep
    simp only [Input.passes] at hpass
    split at hpass
    · next i hd =>
      obtain ⟨k, data, rfl⟩ := notify_of_decodeEvent hd
      obtain ⟨tr, hexec, htr⟩ := exists_exec_notify k data { s with inputs := rest }
      rw [runWord_of_decode (c := .event) hd, hexec] at hstep
      have hres : State.results { s with inputs := rest, trace := tr } = s.results := by
        obtain rfl | rfl := htr <;> simp [State.results]
      exact ⟨_, hstep, inProgress_of_step h hstep h.busy h.suspended hres, hf, rfl⟩
    · cases hpass
  | resolved answer => cases hpass
  | written answer => cases hpass
  | reset => cases hpass

/-- With nothing staged, whatever passes before it, the answer comes to stand next. -/
theorem exists_run_to_answer {before rest : List Input} {answer : Input} (h : InProgress rs p s) (hf : s.frameBuf = none)
    (hi : s.inputs = before ++ answer :: rest) (hpass : before.all Input.passes = true) :
    ∃ n t, core.run n s = .next t ∧ InProgress rs p t ∧ t.frameBuf = none ∧ t.inputs = answer :: rest := by
  induction before generalizing s with
  | nil => exact ⟨0, s, rfl, h, hf, hi⟩
  | cons i before ih =>
    rw [List.all_cons, Bool.and_eq_true] at hpass
    obtain ⟨u, hstep, hu, huf, hui⟩ := inProgress_of_passes h hf hi hpass.1
    obtain ⟨n, t, hrun, ht⟩ := ih hu huf hui hpass.2
    exact ⟨n + 1, t, (run_succ hstep n).trans hrun, ht⟩

/-- R236: under fairness every operation in progress comes to the answer it waits for. -/
theorem exists_run_answered (h : InProgress rs p s) :
    ∃ n t answer rest, core.run n s = .next t ∧ InProgress rs p t ∧ t.awaiting = some p ∧ t.inputs = answer :: rest
      ∧ p.answeredBy answer = true := by
  have hwaiting : ∀ u, InProgress rs p u → u.frameBuf = none → ∃ n t answer rest, core.run n u = .next t
      ∧ InProgress rs p t ∧ t.awaiting = some p ∧ t.inputs = answer :: rest ∧ p.answeredBy answer = true := by
    intro u hu hf
    obtain ⟨before, answer, rest, hi, hpass, hans⟩ :=
      hu.fair 0 u rfl p (State.awaiting_eq_some.2 ⟨hu.busy, hf, hu.suspended⟩)
    obtain ⟨n, t, hrun, ht, htf, hti⟩ := exists_run_to_answer hu hf hi hpass
    exact ⟨n, t, answer, rest, hrun, ht, State.awaiting_eq_some.2 ⟨ht.busy, htf, ht.suspended⟩, hti, hans⟩
  cases hf : s.frameBuf with
  | none => exact hwaiting s h hf
  | some v =>
    obtain ⟨k, hk, -, -, hstep⟩ := stagedIsHandedOver s v h.inv hf
    have hu := inProgress_of_step h hstep h.busy h.suspended (by simp [State.results])
    obtain ⟨n, t, answer, rest, hrun, ht⟩ := hwaiting _ hu rfl
    exact ⟨n + 1, t, answer, rest, (run_succ hstep n).trans hrun, ht⟩

theorem answeredBy_resolving {k : Endpoint} {later : List Endpoint} {i : Input}
    (h : (Suspended.resolving k later).answeredBy i = true) : ∃ answer, i = .resolved answer := by
  cases i <;> cases h
  exact ⟨_, rfl⟩

theorem answeredBy_handshake {w : HandshakeString} {i : Input} (h : (Suspended.handshake w).answeredBy i = true) :
    ∃ answer, i = .written answer := by
  cases i <;> cases h
  exact ⟨_, rfl⟩

theorem answeredBy_command {i : Input} (h : Suspended.command.answeredBy i = true) : ∃ answer, i = .written answer := by
  cases i <;> cases h
  exact ⟨_, rfl⟩

/-- An abort gives one result. -/
theorem results_abort (s : State) (r : Result) : (s.abort r).results = s.results ++ [r] := by
  simp only [State.results, State.abort_trace]
  split <;> simp

/-- CMD ends with the answer to its write. -/
theorem ends_command (h : InProgress rs .command s) : Ends rs s := by
  obtain ⟨n, t, i, rest, hrun, ht, hw, hi, hans⟩ := exists_run_answered h
  obtain ⟨answer, rfl⟩ := answeredBy_command hans
  refine ends_of_run hrun (ends_of_last_step ht (step_cmdDone hw hi) rfl (r := cmdResult answer) ?_)
  simp [State.results]

/-- CONNECT ends from a handshake string on, if it ends from the one an acknowledgement leads to. -/
theorem ends_handshake_of {w : HandshakeString} (h : InProgress rs (.handshake w) s)
    (hok : ∀ t rest, InProgress rs (.handshake w) t → t.awaiting = some (.handshake w) →
      t.inputs = .written .ok :: rest → Ends rs t) : Ends rs s := by
  obtain ⟨n, t, i, rest, hrun, ht, hw, hi, hans⟩ := exists_run_answered h
  obtain ⟨answer, rfl⟩ := answeredBy_handshake hans
  refine ends_of_run hrun ?_
  cases answer with
  | ok => exact hok t rest ht hw hi
  | err kind => exact ends_of_last_step ht (step_handshakeErr hw hi) (State.abort_busy _ _) (results_abort _ _)

/-- Lines 4 to 7 of CONNECT end. -/
theorem ends_handshake {w : HandshakeString} (h : InProgress rs (.handshake w) s) : Ends rs s := by
  have hW : ∀ s, InProgress rs (.handshake .hsW) s → Ends rs s := fun s h => ends_handshake_of h
    fun t rest ht hw hi => by
      have hstep := step_acknowledged hw hi
      by_cases hp : t.params.subscribePoint = .afterHandshake
      · obtain ⟨-, -, -, hfull, -⟩ := (coherent_handshake_iff ht.suspended).1 ht.inv.coherent
        obtain ⟨hn, hh⟩ := full_iff.1 hfull .notify
        have hdone := hstep.trans (handshakeDone_afterHandshake hp hh)
        exact ends_of_last_step ht hdone rfl (r := .ok) (by simp [State.results])
      · have hdone := hstep.trans (handshakeDone_not_afterHandshake hp)
        exact ends_of_last_step ht hdone rfl (r := .ok) (by simp [State.results])
  have hT : ∀ s, InProgress rs (.handshake .hsT) s → Ends rs s := fun s h => ends_handshake_of h
    fun t rest ht hw hi =>
      have hstep := step_acknowledged hw hi
      ends_of_step hstep (hW _ (inProgress_of_step ht hstep ht.busy rfl rfl))
  have hA : ∀ s, InProgress rs (.handshake .hsA) s → Ends rs s := fun s h => ends_handshake_of h
    fun t rest ht hw hi =>
      have hstep := step_acknowledged hw hi
      ends_of_step hstep (hT _ (inProgress_of_step ht hstep ht.busy rfl rfl))
  cases w with
  | hsA => exact hA s h
  | hsT => exact hT s h
  | hsW => exact hW s h

/-- CONNECT ends from a `Resolve` on, if it ends from the step a handle leads to. -/
theorem ends_resolving_of {k : Endpoint} {later : List Endpoint} (h : InProgress rs (.resolving k later) s)
    (hhandle : ∀ t hk rest, InProgress rs (.resolving k later) t →
      step t = (State.setHandle { t with inputs := rest } k hk).resolveNext later → Ends rs t) : Ends rs s := by
  obtain ⟨n, t, i, rest, hrun, ht, hw, hi, hans⟩ := exists_run_answered h
  obtain ⟨answer, rfl⟩ := answeredBy_resolving hans
  refine ends_of_run hrun ?_
  cases answer with
  | handle hk => exact hhandle t hk rest ht (step_handle hw hi)
  | notFound => exact ends_of_last_step ht (step_notFound hw hi) (State.abort_busy _ _) (results_abort _ _)

/-- CONNECT ends from line 2 on: each handle leads to the next endpoint, the last one to the handshake. -/
theorem ends_resolving {k : Endpoint} {later : List Endpoint} (h : InProgress rs (.resolving k later) s) : Ends rs s := by
  induction later generalizing k s with
  | nil =>
    refine ends_resolving_of h fun t hk rest ht hstep => ?_
    obtain ⟨-, -, -, -, hl, hnd⟩ := (coherent_resolving_iff ht.suspended).1 ht.inv.coherent
    by_cases hp : t.params.subscribePoint = .afterResolve
    · obtain ⟨hn, hh⟩ := full_iff.1 (full_of_lacks_nil (lacks_set hl hnd hk)) .notify
      have hstep := hstep.trans (resolvedAll_afterResolve hp hh)
      exact ends_of_step hstep (ends_handshake (inProgress_of_step ht hstep ht.busy rfl (by simp [State.results])))
    · have hstep := hstep.trans (resolvedAll_not_afterResolve hp)
      exact ends_of_step hstep (ends_handshake (inProgress_of_step ht hstep ht.busy rfl rfl))
  | cons k' later ih =>
    refine ends_resolving_of h fun t hk rest ht hstep => ?_
    exact ends_of_step hstep (ih (inProgress_of_step ht hstep ht.busy rfl (by simp [State.results])))

/-- Settles O45: the operation in progress is CONNECT at a `Resolve`, CONNECT at a handshake string, or CMD. -/
theorem fairOperationEnds : Obligations.FairOperationEnds := by
  intro s h hfair hb
  obtain hsus | ⟨p, hsus⟩ := s.suspended.eq_none_or_eq_some
  · exact absurd hb (by simp [((coherent_settled_iff hsus).1 h.coherent).1])
  have hprog : InProgress s.results p s := ⟨h, hfair, hb, hsus, rfl⟩
  cases p with
  | resolving k later => exact ends_resolving hprog
  | handshake w => exact ends_handshake hprog
  | command => exact ends_command hprog

end Sys2Proof.Proofs
end

section
/-! Runs of commands in READY (42_session_ops.md R164). -/

namespace Sys2Proof.Proofs

open Sys2Proof.Machine

variable {s t u : State} {h : Handle} {c : CmdCall} {cs : List CmdCall}

/-! ### The lists of R164 -/

theorem answersOf_cons (c : CmdCall) (cs : List CmdCall) : answersOf (c :: cs) = answersOf [c] ++ answersOf cs :=
  List.filterMap_append (l := [c]) (l' := cs) ..

theorem framesFrom_cons (h : Handle) (q : Byte) (c : CmdCall) (cs : List CmdCall) :
    framesFrom h q (c :: cs) = framesFrom h q [c] ++ framesFrom h (seqNext q) cs := by
  simp only [framesFrom]
  cases c.frame q <;> rfl

section Fits

variable (hfit : c.payload.length ≤ Config.lmax)
include hfit

/-- A command that fits has its answer, its result, and its frame. -/
theorem answersOf_of_fits : answersOf [c] = [.written c.answer] := by
  simp [answersOf, hfit]

theorem result_of_fits : c.result = cmdResult c.answer := by
  rw [CmdCall.result, if_pos hfit]
  cases c.answer <;> rfl

theorem exists_frame_of_fits (q : Byte) : ∃ f, c.frame q = some f :=
  exists_encodeFrame hfit

end Fits

section Oversized

variable (hover : Config.lmax < c.payload.length)
include hover

/-- An oversized command has no answer, no frame, and its own result. -/
theorem answersOf_of_oversized : answersOf [c] = [] := by
  simp [answersOf, hover]

theorem result_of_oversized : c.result = .oversizedPayload :=
  if_neg (Nat.not_le.2 hover)

theorem frame_of_oversized (q : Byte) : c.frame q = none :=
  encodeFrame_eq_none hover

end Oversized

/-! ### One command -/

/-- The next step can only be the request's: no notification is next, or no draw is for one. -/
def RequestFirst (s : State) : Prop := (∀ e, s.inputs.head? ≠ some (.event e)) ∨ true ∉ s.turns

theorem eventFirst_eq_false (h : RequestFirst s) : s.eventFirst = false := by
  obtain hno | hturns := h
  · exact eventFirst_of_no_event (eventNext_eq_false hno)
  · rw [State.eventFirst]
    cases hd : s.turns with
    | nil => simp
    | cons b ds =>
      cases b with
      | false => simp
      | true => exact absurd (hd ▸ List.mem_cons_self) hturns

/-- What the commands `cs` leave of a READY block that writes to `h`: READY again, `cs.length` numbers spent, their
frames written, their results given, everything else as it was. -/
structure CmdsDone (h : Handle) (cs : List CmdCall) (s t : State) : Prop where
  session : t.session = .ready
  busy : t.busy = false
  handles : t.handles = s.handles
  params : t.params = s.params
  turns : t.turns ⊆ s.turns
  seq : t.seq = seqNext^[cs.length] s.seq
  writes : t.writes = s.writes ++ framesFrom h s.seq cs
  results : t.results = s.results ++ cs.map CmdCall.result

theorem cmdsDone_nil (hs : s.session = .ready) (hb : s.busy = false) : CmdsDone h [] s s :=
  ⟨hs, hb, rfl, rfl, List.Subset.refl _, rfl, by simp [framesFrom], by simp⟩

theorem cmdsDone_cons (h1 : CmdsDone h [c] s t) (h2 : CmdsDone h cs t u) : CmdsDone h (c :: cs) s u where
  session := h2.session
  busy := h2.busy
  handles := h2.handles.trans h1.handles
  params := h2.params.trans h1.params
  turns := List.Subset.trans h2.turns h1.turns
  seq := by rw [h2.seq, h1.seq]; rfl
  writes := by
    have hseq : t.seq = seqNext s.seq := h1.seq
    rw [h2.writes, h1.writes, framesFrom_cons h s.seq c cs, List.append_assoc, hseq]
  results := by rw [h2.results, h1.results]; simp

/-- R163, R164: a command presented to a READY block runs to its end: at once where it is oversized, else over its
staging, its write and the answer. -/
theorem exists_run_cmd (hinv : s.Inv) (hb : s.busy = false) (hs : s.session = .ready) (hroll : s.handles.roll = some h)
    {ps : List Bytes} {rest : List Input} (hport : s.port = encode s.params c.instr :: ps)
    (hi : s.inputs = answersOf [c] ++ rest) (hfirst : RequestFirst s) :
    ∃ n t, core.run n s = .next t ∧ CmdsDone h [c] s t ∧ t.port = ps ∧ t.inputs = rest := by
  obtain ⟨hf, ha⟩ := accepts_of_not_busy hinv.coherent hb
  have hsus := suspended_eq_none hinv.coherent hb
  obtain ⟨d, hd, hdrawn⟩ := exists_drawn s
  have hstep : step s = exec c.instr { s with port := ps, turns := d } := by
    rw [step_of_request hf ha hport (eventFirst_eq_false hfirst), hdrawn]
    exact runWord_of_decode (decode_request_encode hinv.params rfl)
  by_cases hfit : c.payload.length ≤ Config.lmax
  · obtain ⟨f, hframe⟩ := exists_frame_of_fits hfit s.seq
    rw [answersOf_of_fits hfit] at hi
    have hstaged := hstep.trans (exec_cmd_of_frame (s := { s with port := ps, turns := d }) hb hs hframe)
    have hwritten := step_frame_staged
      (s := State.stage { s with port := ps, turns := d, busy := true, seq := seqNext s.seq } .command f)
      rfl rfl rfl (isFrame_of_encodeFrame hframe) hroll
    have hdone := step_cmdDone (answer := c.answer) (rest := rest)
      (s := { s with
        port := ps, turns := d, busy := true, seq := seqNext s.seq, suspended := some .command, frameBuf := none
        trace := .write h f true :: s.trace })
      rfl hi
    refine ⟨3, _, (run_succ hstaged 2).trans (run_two hwritten hdone), ?_, rfl, rfl⟩
    exact
      { session := hs, busy := rfl, handles := rfl, params := rfl, turns := hd, seq := rfl
        writes := by simp [State.writes, framesFrom, hframe]
        results := by simp [State.results, result_of_fits hfit] }
  · have hover := Nat.lt_of_not_le hfit
    rw [answersOf_of_oversized hover] at hi
    have hdone := hstep.trans
      (exec_cmd_of_oversized (s := { s with port := ps, turns := d }) hb hs (frame_of_oversized hover s.seq))
    refine ⟨1, _, run_succ hdone 0, ?_, rfl, hi⟩
    exact
      { session := hs, busy := rfl, handles := rfl, params := rfl, turns := hd, seq := rfl
        writes := by simp [State.writes, framesFrom, frame_of_oversized hover]
        results := by simp [State.results, result_of_oversized hover] }

/-! ### A sequence of commands -/

/-- Before a sequence of commands the next input is an answer, or what stands after the sequence. -/
theorem requestFirst_of_answers {rest : List Input} (hi : s.inputs = answersOf cs ++ rest)
    (hrest : (∀ e, rest.head? ≠ some (.event e)) ∨ true ∉ s.turns) : RequestFirst s := by
  refine hrest.imp_left fun hno e he => ?_
  cases hans : answersOf cs with
  | nil => exact hno e (by rwa [hi, hans] at he)
  | cons i is =>
    have hmem : i ∈ answersOf cs := hans ▸ List.mem_cons_self
    obtain ⟨c, -, hc⟩ := List.mem_filterMap.1 hmem
    rw [hi, hans] at he
    obtain rfl := Option.some.inj he
    split at hc <;> cases hc

/-- R164: the commands run one after another. -/
theorem exists_run_cmds {rest : List Input} (hinv : s.Inv) (hb : s.busy = false) (hs : s.session = .ready)
    (hroll : s.handles.roll = some h) (hport : s.port = cs.map fun c => encode s.params c.instr)
    (hi : s.inputs = answersOf cs ++ rest) (hrest : (∀ e, rest.head? ≠ some (.event e)) ∨ true ∉ s.turns) :
    ∃ n t, core.run n s = .next t ∧ CmdsDone h cs s t ∧ t.port = [] ∧ t.inputs = rest := by
  induction cs generalizing s with
  | nil => exact ⟨0, s, rfl, cmdsDone_nil hs hb, hport, hi⟩
  | cons c cs ih =>
    have hfirst := requestFirst_of_answers hi hrest
    rw [answersOf_cons, List.append_assoc] at hi
    obtain ⟨m, u, hm, hu, huport, hui⟩ := exists_run_cmd hinv hb hs hroll hport hi hfirst
    obtain ⟨n, t, hn, ht, htport, hti⟩ := ih (inv_of_run hinv hm) hu.busy hu.session (by rw [hu.handles, hroll])
      (by rw [huport, hu.params]) hui (hrest.imp_right fun hno hmem => hno (hu.turns hmem))
    exact ⟨m + n, t, (run_add hm n).trans hn, cmdsDone_cons hu ht, htport, hti⟩

/-- Settles O32: the run of the sequence, its numbers counted by `SeqNext`'s iterates. -/
theorem cmdSequence : Obligations.CmdSequence := by
  intro cs s h rest hinv hb hs hroll hport hi hrest
  obtain ⟨n, t, hrun, hdone, htport, hti⟩ := exists_run_cmds hinv hb hs hroll hport hi hrest
  have hseq : t.seq.toNat = (s.seq.toNat + cs.length) % 256 := by rw [hdone.seq, toNat_iterate_seqNext]
  exact ⟨n, t, hrun, hdone.session, hdone.busy, htport, hti, hdone.handles, hseq, hdone.writes, hdone.results⟩

end Sys2Proof.Proofs
end

section
/-! Runs of CONNECT (42_session_ops.md R161, R162): line 2 over the resolve order, then the three handshake writes. -/

namespace Sys2Proof.Proofs

open Sys2Proof.Machine

variable {s t : State}

/-! ### Handles stored one after another -/

/-- The handles with those of `pairs` stored, first to last. -/
def assign (hs : Handles) (pairs : List (Endpoint × Handle)) : Handles :=
  pairs.foldl (fun hs p => hs.set p.1 p.2) hs

theorem assign_cons (hs : Handles) (p : Endpoint × Handle) (pairs : List (Endpoint × Handle)) :
    assign hs (p :: pairs) = assign (hs.set p.1 p.2) pairs := rfl

/-- An endpoint that is not stored keeps its handle. -/
theorem get_assign_of_not_mem {pairs : List (Endpoint × Handle)} {k : Endpoint} (h : k ∉ pairs.map Prod.fst)
    (hs : Handles) : (assign hs pairs).get k = hs.get k := by
  induction pairs generalizing hs with
  | nil => rfl
  | cons p pairs ih =>
    rw [List.map_cons, List.mem_cons, not_or] at h
    rw [assign_cons, ih h.2, Handles.get_set_other _ _ h.1]

/-- Each endpoint stored once holds its handle. -/
theorem get_assign_of_mem {pairs : List (Endpoint × Handle)} (hnd : (pairs.map Prod.fst).Nodup) {k : Endpoint}
    {h : Handle} (hmem : (k, h) ∈ pairs) (hs : Handles) : (assign hs pairs).get k = some h := by
  induction pairs generalizing hs with
  | nil => cases hmem
  | cons p pairs ih =>
    obtain ⟨hp, hnd⟩ := List.nodup_cons.1 hnd
    obtain rfl | hmem := List.mem_cons.1 hmem
    · rw [assign_cons, get_assign_of_not_mem hp, Handles.get_set_same]
    · exact ih hnd hmem _

/-! ### What the transport and the caller have seen -/

/-- The views of the trace that R162 speaks of. -/
structure Seen where
  writes : List (Handle × Bytes × Bool)
  subscribes : List Handle
  results : List Result

/-- The views with one more acknowledged write. -/
def Seen.wrote (view : Seen) (h : Handle) (v : Bytes) : Seen := { view with writes := view.writes ++ [(h, v, true)] }

/-- The views with the subscriptions `hns` made. -/
def Seen.subscribed (view : Seen) (hns : List Handle) : Seen := { view with subscribes := view.subscribes ++ hns }

/-- The views with one more result. -/
def Seen.gave (view : Seen) (r : Result) : Seen := { view with results := view.results ++ [r] }

/-- What has been seen of `s`. -/
def seen (s : State) : Seen := ⟨s.writes, s.subscribes, s.results⟩

theorem seen_resolve {fragment : BitVec 16} (h : t.trace = .resolve fragment :: s.trace) : seen t = seen s := by
  simp [seen, State.writes, State.subscribes, State.results, h]

theorem seen_subscribe {hn : Handle} (h : t.trace = .subscribe hn :: s.trace) : seen t = (seen s).subscribed [hn] := by
  simp [seen, Seen.subscribed, State.writes, State.subscribes, State.results, h]

theorem seen_write {k : Handle} {v : Bytes} (h : t.trace = .write k v true :: s.trace) :
    seen t = (seen s).wrote k v := by
  simp [seen, Seen.wrote, State.writes, State.subscribes, State.results, h]

theorem seen_result {r : Result} (h : t.trace = .result r :: s.trace) : seen t = (seen s).gave r := by
  simp [seen, Seen.gave, State.writes, State.subscribes, State.results, h]

theorem seen_abort (s : State) (r : Result) : seen (s.abort r) = (seen s).gave r := by
  simp only [seen, Seen.gave, State.writes, State.subscribes, State.results, State.abort_trace]
  split <;> simp

theorem subscribed_nil (view : Seen) : view.subscribed [] = view := by
  simp [Seen.subscribed]

/-! ### Where CONNECT stands -/

/-- CONNECT waits for the handle of `k`, `later` still to come. -/
structure AtResolve (k : Endpoint) (later : List Endpoint) (hs : Handles) (p : Params) (inputs : List Input)
    (view : Seen) (s : State) : Prop where
  inv : s.Inv
  suspended : s.suspended = some (.resolving k later)
  handles : s.handles = hs
  params : s.params = p
  port : s.port = []
  inputs : s.inputs = inputs
  view : seen s = view

/-- CONNECT stands at the handshake string `w`, with `staged` in the frame buffer. -/
structure AtString (w : HandshakeString) (staged : Option Bytes) (hs : Handles) (p : Params) (inputs : List Input)
    (view : Seen) (s : State) : Prop where
  inv : s.Inv
  suspended : s.suspended = some (.handshake w)
  staged : s.frameBuf = staged
  handles : s.handles = hs
  params : s.params = p
  inputs : s.inputs = inputs
  view : seen s = view

/-- CONNECT has ended in CLOSED. -/
structure Failed (inputs : List Input) (view : Seen) (s : State) : Prop where
  session : s.session = .closed
  seq : s.seq = 0
  busy : s.busy = false
  handles : s.handles = Handles.unresolved
  inputs : s.inputs = inputs
  view : seen s = view

/-- CONNECT has ended in READY. -/
structure Connected (hs : Handles) (inputs : List Input) (view : Seen) (s : State) : Prop where
  session : s.session = .ready
  seq : s.seq = 0
  busy : s.busy = false
  handles : s.handles = hs
  inputs : s.inputs = inputs
  view : seen s = view

section Connect

variable {k : Endpoint} {later : List Endpoint} {hs : Handles} {p : Params} {inputs rest : List Input} {view : Seen}

theorem awaiting_of_atResolve (hat : AtResolve k later hs p inputs view s) : s.awaiting = some (.resolving k later) := by
  obtain ⟨hb, hf, -⟩ := (coherent_resolving_iff hat.suspended).1 hat.inv.coherent
  exact State.awaiting_eq_some.2 ⟨hb, hf, hat.suspended⟩

theorem awaiting_of_atString {w : HandshakeString} (hat : AtString w none hs p inputs view s) :
    s.awaiting = some (.handshake w) := by
  obtain ⟨hb, -⟩ := (coherent_handshake_iff hat.suspended).1 hat.inv.coherent
  exact State.awaiting_eq_some.2 ⟨hb, hat.staged, hat.suspended⟩

/-- An abort while SEQ is 0 is a failed CONNECT. -/
theorem failed_abort (hq : s.seq = Config.seqReset) (r : Result) :
    Failed rest ((seen s).gave r) (State.abort { s with inputs := rest } r) where
  session := State.abort_session _ _
  seq := (State.abort_seq _ _).trans hq
  busy := State.abort_busy _ _
  handles := State.abort_handles _ _
  inputs := State.abort_inputs _ _
  view := seen_abort _ _

/-! ### Line 2 -/

/-- R161 line 1: CONNECT in IDLE comes to wait for the first endpoint of the order. -/
theorem step_connect (hinv : s.Inv) (hs : s.session = .idle) (hport : s.port = [encode s.params .connect])
    (hno : ∀ e, s.inputs.head? ≠ some (.event e)) :
    ∃ k later t, s.params.resolveOrder = k :: later ∧ step s = .next t
      ∧ AtResolve k later Handles.unresolved s.params s.inputs (seen s) t := by
  have hb := not_busy_of_idle_or_closed hinv.coherent (.inl hs)
  obtain ⟨hf, -⟩ := accepts_of_not_busy hinv.coherent hb
  obtain ⟨hh, -⟩ := coherent_idle hinv.coherent hb hs
  obtain ⟨k, later, horder⟩ : ∃ k later, s.params.resolveOrder = k :: later :=
    List.exists_cons_of_ne_nil (List.ne_nil_of_mem (mem_resolveOrder hinv.params .roll))
  have hrun := ((stepRunsInstruction s _ _).2.1 [] hf hb (by simp [hs]) hport
    (decode_request_encode hinv.params rfl)).1 hno
  have hstep := hrun.trans (connectStarts { s with port := [] } k later hb hs horder)
  exact ⟨k, later, _, horder, hstep, stepKeepsInv _ _ hinv hstep, rfl, hh, rfl, rfl, rfl, seen_resolve rfl⟩

/-- R161 line 2: a handle leads to the next endpoint. -/
theorem step_next_resolve {k' : Endpoint} {h : Handle}
    (hat : AtResolve k (k' :: later) hs p (.resolved (.handle h) :: inputs) view s) :
    ∃ t, step s = .next t ∧ AtResolve k' later (hs.set k h) p inputs view t := by
  have hstep := step_handle (awaiting_of_atResolve hat) hat.inputs
  exact ⟨_, hstep, stepKeepsInv _ _ hat.inv hstep, rfl, congrArg (·.set k h) hat.handles, hat.params, hat.port, rfl,
    (seen_resolve rfl).trans hat.view⟩

/-- The subscription CONNECT makes before the handshake (D12). -/
def subscribedBefore (p : Params) (hn : Handle) : List Handle := if p.subscribePoint = .afterResolve then [hn] else []

/-- The subscription CONNECT makes after the handshake (D12). -/
def subscribedAfter (p : Params) (hn : Handle) : List Handle := if p.subscribePoint = .afterHandshake then [hn] else []

/-- R161 lines 2 and 3: the last handle leads to the handshake, with the subscription where the parameter puts it. -/
theorem step_last_resolve {h hn : Handle} (hat : AtResolve k [] hs p (.resolved (.handle h) :: inputs) view s)
    (hnotify : (hs.set k h).notify = some hn) :
    ∃ t, step s = .next t
      ∧ AtString .hsA (some Config.antidosToken) (hs.set k h) p inputs (view.subscribed (subscribedBefore p hn)) t := by
  have hstep := step_handle (awaiting_of_atResolve hat) hat.inputs
  obtain ⟨hinv, -, rfl, rfl, -, hi, rfl⟩ := hat
  by_cases hp : s.params.subscribePoint = .afterResolve
  · have hstep := hstep.trans (resolvedAll_afterResolve hp hnotify)
    refine ⟨_, hstep, stepKeepsInv _ _ hinv hstep, rfl, rfl, rfl, rfl, rfl, ?_⟩
    rw [subscribedBefore, if_pos hp]
    exact seen_subscribe rfl
  · have hstep := hstep.trans (resolvedAll_not_afterResolve hp)
    refine ⟨_, hstep, stepKeepsInv _ _ hinv hstep, rfl, rfl, rfl, rfl, rfl, ?_⟩
    rw [subscribedBefore, if_neg hp, subscribed_nil]
    rfl

/-- R162 row 1: after some handles nothing is found. -/
theorem run_notFound {hl : List Handle} (hlen : hl.length ≤ later.length)
    (hat : AtResolve k later hs p (hl.map (fun h => .resolved (.handle h)) ++ .resolved .notFound :: rest) view s) :
    ∃ t, core.run (hl.length + 1) s = .next t ∧ Failed rest (view.gave .characteristicNotFound) t ∧ t.port = [] := by
  induction hl generalizing k later hs s with
  | nil =>
    obtain ⟨-, -, -, hq, -⟩ := (coherent_resolving_iff hat.suspended).1 hat.inv.coherent
    have hstep := step_notFound (awaiting_of_atResolve hat) hat.inputs
    refine ⟨_, run_succ hstep 0, ?_, (State.abort_port _ _).trans hat.port⟩
    rw [← hat.view]
    exact failed_abort hq _
  | cons h hl ih =>
    cases later with
    | nil => simp at hlen
    | cons k' later =>
      obtain ⟨u, hstep, hu⟩ := step_next_resolve hat
      obtain ⟨t, hrun, ht⟩ := ih (Nat.le_of_succ_le_succ hlen) hu
      exact ⟨t, (run_succ hstep _).trans hrun, ht⟩

/-- R161 lines 2 and 3: a handle for every endpoint leads to the handshake, each stored for its own. -/
theorem run_resolved {hl : List Handle} {hn : Handle} (hlen : hl.length = later.length + 1)
    (hat : AtResolve k later hs p (hl.map (fun h => .resolved (.handle h)) ++ rest) view s)
    (hnotify : (assign hs ((k :: later).zip hl)).notify = some hn) :
    ∃ t, core.run hl.length s = .next t
      ∧ AtString .hsA (some Config.antidosToken) (assign hs ((k :: later).zip hl)) p rest
        (view.subscribed (subscribedBefore p hn)) t := by
  induction later generalizing k hs s hl with
  | nil =>
    obtain ⟨h, rfl⟩ := List.length_eq_one_iff.1 hlen
    obtain ⟨t, hstep, ht⟩ := step_last_resolve hat hnotify
    exact ⟨t, run_succ hstep 0, ht⟩
  | cons k' later ih =>
    obtain ⟨h, hl, rfl⟩ := List.exists_cons_of_length_eq_add_one hlen
    obtain ⟨u, hstep, hu⟩ := step_next_resolve hat
    obtain ⟨t, hrun, ht⟩ := ih (Nat.succ.inj hlen) hu hnotify
    exact ⟨t, (run_succ hstep _).trans hrun, ht⟩

/-! ### Lines 4 to 7 -/

section Handshake

variable {w w' : HandshakeString} {h : Handle} (hat : AtString w (some (w.bytes p)) hs p inputs view s)
  (hh : hs.get w.endpoint = some h)
include hat hh

/-- R161 lines 4 to 6: the staged string is written. -/
theorem step_handOver : ∃ t, step s = .next t ∧ AtString w none hs p inputs (view.wrote h (w.bytes p)) t := by
  obtain ⟨hb, -⟩ := (coherent_handshake_iff hat.suspended).1 hat.inv.coherent
  obtain ⟨hinv, hsus, hstaged, rfl, rfl, rfl, rfl⟩ := hat
  have hstep := step_handshake_staged hb hsus hstaged hh
  exact ⟨_, hstep, stepKeepsInv _ _ hinv hstep, hsus, rfl, rfl, rfl, rfl, seen_write rfl⟩

/-- R162 rows 2 to 4: the write fails. -/
theorem run_write_failed {kind : ErrKind} (hi : inputs = .written (.err kind) :: rest) :
    ∃ t, core.run 2 s = .next t ∧ Failed rest ((view.wrote h (w.bytes p)).gave .handshakeFailed) t := by
  obtain ⟨u, hwrite, hu⟩ := step_handOver hat hh
  obtain ⟨-, -, hq, -⟩ := (coherent_handshake_iff hu.suspended).1 hu.inv.coherent
  have hstep := step_handshakeErr (awaiting_of_atString hu) (hu.inputs.trans hi)
  refine ⟨_, run_two hwrite hstep, ?_⟩
  rw [← hu.view]
  exact failed_abort hq _

/-- R161 lines 4 and 5: the write is acknowledged and the next string staged. -/
theorem run_write_acknowledged (hnext : ∀ u : State, u.handshakeNext w = .next (u.stageHandshake w'))
    (hi : inputs = .written .ok :: rest) :
    ∃ t, core.run 2 s = .next t
      ∧ AtString w' (some (w'.bytes p)) hs p rest (view.wrote h (w.bytes p)) t := by
  obtain ⟨u, hwrite, hu⟩ := step_handOver hat hh
  have hstep := (step_acknowledged (awaiting_of_atString hu) (hu.inputs.trans hi)).trans (hnext _)
  obtain ⟨hinv, -, -, rfl, rfl, -, hview⟩ := hu
  exact ⟨_, run_two hwrite hstep, stepKeepsInv _ _ hinv hstep, rfl, rfl, rfl, rfl, rfl, hview⟩

end Handshake

/-- R161 lines 6 and 7, R162 row 5: the third write is acknowledged and CONNECT ends. -/
theorem run_connected {h hn : Handle} (hat : AtString .hsW (some Config.wakecpuByte) hs p inputs view s)
    (hh : hs.wakecpu = some h) (hnotify : hs.notify = some hn) (hi : inputs = .written .ok :: rest) :
    ∃ t, core.run 2 s = .next t
      ∧ Connected hs rest (((view.wrote h Config.wakecpuByte).subscribed (subscribedAfter p hn)).gave .ok) t := by
  obtain ⟨u, hwrite, hu⟩ := step_handOver hat hh
  obtain ⟨-, -, hq, -⟩ := (coherent_handshake_iff hu.suspended).1 hu.inv.coherent
  have hstep := step_acknowledged (awaiting_of_atString hu) (hu.inputs.trans hi)
  obtain ⟨-, -, -, rfl, rfl, -, hview⟩ := hu
  have hview : seen u = view.wrote h Config.wakecpuByte := hview
  rw [← hview]
  by_cases hp : u.params.subscribePoint = .afterHandshake
  · have hstep := hstep.trans (handshakeDone_afterHandshake hp hnotify)
    refine ⟨_, run_two hwrite hstep, rfl, hq, rfl, rfl, rfl, ?_⟩
    rw [subscribedAfter, if_pos hp]
    exact (seen_result rfl).trans (congrArg (·.gave .ok) (seen_subscribe rfl))
  · have hstep := hstep.trans (handshakeDone_not_afterHandshake hp)
    refine ⟨_, run_two hwrite hstep, rfl, hq, rfl, rfl, rfl, ?_⟩
    rw [subscribedAfter, if_neg hp, subscribed_nil]
    exact seen_result rfl

end Connect

/-! ### The outcome table -/

/-- With one subscription point at most, CONNECT subscribes once, unless the point is external. -/
theorem subscribedBefore_append_subscribedAfter (p : Params) (hn : Handle) :
    subscribedBefore p hn ++ subscribedAfter p hn = if p.subscribePoint = .external then [] else [hn] := by
  simp only [subscribedBefore, subscribedAfter]
  cases p.subscribePoint <;> rfl

/-- R53: five endpoints. -/
theorem length_resolveOrder {p : Params} (h : p.wf = true) : p.resolveOrder.length = 5 :=
  (resolveOrder_perm h).length_eq

/-- The handles held once `hl` has answered the resolve order. -/
def resolved (p : Params) (hl : List Handle) : Handles := assign Handles.unresolved (p.resolveOrder.zip hl)

/-- R161 line 2: each endpoint holds the answer to its own `Resolve`. -/
theorem get_resolved {p : Params} (hp : p.wf = true) {hl : List Handle} (hlen : hl.length = 5) {k : Endpoint}
    {h : Handle} (hmem : (k, h) ∈ p.resolveOrder.zip hl) : (resolved p hl).get k = some h := by
  refine get_assign_of_mem ?_ hmem _
  rw [List.map_fst_zip (by rw [length_resolveOrder hp, hlen])]
  exact nodup_resolveOrder hp

section Table

variable {hl : List Handle} {rest : List Input} (hinv : s.Inv) (hs : s.session = .idle)
  (hport : s.port = [encode s.params .connect])
include hinv hs hport

/-- R162 row 1, from IDLE. -/
theorem run_connect_notFound (hlen : hl.length < 5)
    (hi : s.inputs = hl.map (fun h => .resolved (.handle h)) ++ .resolved .notFound :: rest) :
    ∃ t, core.run (hl.length + 2) s = .next t ∧ Failed rest ((seen s).gave .characteristicNotFound) t
      ∧ t.port = [] := by
  obtain ⟨k, later, u, horder, hstep, hu⟩ := step_connect hinv hs hport (by rw [hi]; cases hl <;> simp)
  have hlater : later.length + 1 = 5 := by rw [← length_resolveOrder hinv.params, horder, List.length_cons]
  obtain ⟨t, hrun, ht⟩ := run_notFound (by omega) (hi ▸ hu)
  exact ⟨t, (run_succ hstep _).trans hrun, ht⟩

/-- R161 lines 1 to 3, from IDLE: with five handles CONNECT comes to the handshake. -/
theorem run_connect_resolved {hN : Handle} (hlen : hl.length = 5)
    (hN' : (Endpoint.notify, hN) ∈ s.params.resolveOrder.zip hl)
    (hi : s.inputs = hl.map (fun h => .resolved (.handle h)) ++ rest) :
    ∃ t, core.run 6 s = .next t ∧ AtString .hsA (some Config.antidosToken) (resolved s.params hl) s.params rest
      ((seen s).subscribed (subscribedBefore s.params hN)) t := by
  obtain ⟨k, later, u, horder, hstep, hu⟩ := step_connect hinv hs hport (by rw [hi]; cases hl <;> simp at hlen ⊢)
  have hlater : later.length + 1 = 5 := by rw [← length_resolveOrder hinv.params, horder, List.length_cons]
  have hnotify := get_resolved hinv.params hlen hN'
  rw [resolved, horder] at hnotify ⊢
  obtain ⟨t, hrun, ht⟩ := run_resolved (hlen.trans hlater.symm) (hi ▸ hu) hnotify
  rw [hlen] at hrun
  exact ⟨t, (run_succ hstep _).trans hrun, ht⟩

end Table

/-- The views of a failed row, one by one. -/
theorem views_of_failed {rest : List Input} {subs : List Handle} {ws : List (Handle × Bytes × Bool)} {r : Result}
    (ht : Failed rest ⟨s.writes ++ ws, s.subscribes ++ subs, s.results ++ [r]⟩ t) :
    t.session = .closed ∧ t.seq = 0 ∧ t.busy = false ∧ t.handles = Handles.unresolved ∧ t.inputs = rest
      ∧ t.results = s.results ++ [r] ∧ t.subscribes = s.subscribes ++ subs ∧ t.writes = s.writes ++ ws :=
  ⟨ht.session, ht.seq, ht.busy, ht.handles, ht.inputs, congrArg Seen.results ht.view, congrArg Seen.subscribes ht.view,
    congrArg Seen.writes ht.view⟩

section Rows

variable {hl : List Handle} {rest : List Input} {hA hT hW hN : Handle} {kind : ErrKind} {subs : List Handle}
  {inputs : List Input} (hhA : (resolved s.params hl).antidos = some hA) (hhT : (resolved s.params hl).txpower = some hT)
  (hhW : (resolved s.params hl).wakecpu = some hW) (hhN : (resolved s.params hl).notify = some hN)
  (hat : AtString .hsA (some Config.antidosToken) (resolved s.params hl) s.params inputs ((seen s).subscribed subs) t)
include hat hhA

/-- R162 row 2: the first write fails. -/
theorem run_row_hsA (hi : inputs = .written (.err kind) :: rest) :
    ∃ u, core.run 2 t = .next u ∧ Failed rest
      ⟨s.writes ++ [(hA, Config.antidosToken, true)], s.subscribes ++ subs, s.results ++ [.handshakeFailed]⟩ u :=
  run_write_failed hat hhA hi

include hhT

/-- R162 row 3: the second write fails. -/
theorem run_row_hsT (hi : inputs = .written .ok :: .written (.err kind) :: rest) :
    ∃ u, core.run 4 t = .next u ∧ Failed rest
      ⟨s.writes ++ [(hA, Config.antidosToken, true), (hT, s.params.txpowerBytes, true)], s.subscribes ++ subs,
        s.results ++ [.handshakeFailed]⟩ u := by
  obtain ⟨t1, hrun1, ht1⟩ := run_write_acknowledged hat hhA (fun _ => rfl) hi
  obtain ⟨u, hrun2, hu⟩ := run_write_failed ht1 hhT rfl
  refine ⟨u, (run_add hrun1 2).trans hrun2, ?_⟩
  simpa [Seen.wrote, Seen.subscribed, Seen.gave, seen, HandshakeString.bytes] using hu

/-- R161 lines 4 and 5: after two acknowledged writes CONNECT stands at the third string. -/
theorem run_to_hsW (hi : inputs = .written .ok :: .written .ok :: rest) :
    ∃ u, core.run 4 t = .next u ∧ AtString .hsW (some Config.wakecpuByte) (resolved s.params hl) s.params rest
      ⟨s.writes ++ [(hA, Config.antidosToken, true), (hT, s.params.txpowerBytes, true)], s.subscribes ++ subs,
        s.results⟩ u := by
  obtain ⟨t1, hrun1, ht1⟩ := run_write_acknowledged hat hhA (fun _ => rfl) hi
  obtain ⟨u, hrun2, hu⟩ := run_write_acknowledged ht1 hhT (fun _ => rfl) rfl
  refine ⟨u, (run_add hrun1 2).trans hrun2, ?_⟩
  simpa [Seen.wrote, Seen.subscribed, seen, HandshakeString.bytes] using hu

include hhW

/-- R162 row 4: the third write fails. -/
theorem run_row_hsW (hi : inputs = .written .ok :: .written .ok :: .written (.err kind) :: rest) :
    ∃ u, core.run 6 t = .next u ∧ Failed rest
      ⟨s.writes ++ [(hA, Config.antidosToken, true), (hT, s.params.txpowerBytes, true), (hW, Config.wakecpuByte, true)],
        s.subscribes ++ subs, s.results ++ [.handshakeFailed]⟩ u := by
  obtain ⟨t1, hrun1, ht1⟩ := run_to_hsW hhA hhT hat hi
  obtain ⟨u, hrun2, hu⟩ := run_write_failed ht1 hhW rfl
  refine ⟨u, (run_add hrun1 2).trans hrun2, ?_⟩
  simpa [Seen.wrote, Seen.gave, HandshakeString.bytes] using hu

include hhN

/-- R162 row 5: the three writes are acknowledged. -/
theorem run_row_ok (hi : inputs = .written .ok :: .written .ok :: .written .ok :: rest) :
    ∃ u, core.run 6 t = .next u ∧ Connected (resolved s.params hl) rest
      ⟨s.writes ++ [(hA, Config.antidosToken, true), (hT, s.params.txpowerBytes, true), (hW, Config.wakecpuByte, true)],
        s.subscribes ++ (subs ++ subscribedAfter s.params hN), s.results ++ [.ok]⟩ u := by
  obtain ⟨t1, hrun1, ht1⟩ := run_to_hsW hhA hhT hat hi
  obtain ⟨u, hrun2, hu⟩ := run_connected ht1 hhW hhN rfl
  refine ⟨u, (run_add hrun1 2).trans hrun2, ?_⟩
  simpa [Seen.wrote, Seen.subscribed, Seen.gave] using hu

end Rows

/-- Settles O31: the run to the handshake is shared; from there each row goes its own way. -/
theorem connectOutcomes : Obligations.ConnectOutcomes := by
  intro s hl rest hinv hs hport
  refine ⟨fun hlen hi => ?notFound, fun hA hT hW hN hlen hmemA hmemT hmemW hmemN => ?handshake⟩
  case notFound =>
    obtain ⟨t, hrun, ht, htport⟩ := run_connect_notFound hinv hs hport hlen hi
    exact ⟨t, hrun, ht.session, ht.seq, ht.busy, ht.handles, htport, ht.inputs, congrArg Seen.writes ht.view,
      congrArg Seen.subscribes ht.view, congrArg Seen.results ht.view⟩
  case handshake =>
    have hhA := get_resolved hinv.params hlen hmemA
    have hhT := get_resolved hinv.params hlen hmemT
    have hhW := get_resolved hinv.params hlen hmemW
    have hhN := get_resolved hinv.params hlen hmemN
    refine ⟨fun kind hi => ?hsA, fun kind hi => ?hsT, fun kind hi => ?hsW, fun hi => ?ok⟩
    all_goals obtain ⟨t, hrun, ht⟩ := run_connect_resolved hinv hs hport hlen hmemN hi
    case hsA =>
      obtain ⟨u, hrun', hu⟩ := run_row_hsA hhA ht rfl
      exact ⟨u, (run_add hrun 2).trans hrun', views_of_failed hu⟩
    case hsT =>
      obtain ⟨u, hrun', hu⟩ := run_row_hsT hhA hhT ht rfl
      exact ⟨u, (run_add hrun 4).trans hrun', views_of_failed hu⟩
    case hsW =>
      obtain ⟨u, hrun', hu⟩ := run_row_hsW hhA hhT hhW ht rfl
      exact ⟨u, (run_add hrun 6).trans hrun', views_of_failed hu⟩
    case ok =>
      obtain ⟨u, hrun', hu⟩ := run_row_ok hhA hhT hhW hhN ht rfl
      have hsubs := congrArg Seen.subscribes hu.view
      rw [subscribedBefore_append_subscribedAfter] at hsubs
      exact ⟨u, (run_add hrun 6).trans hrun', hu.session, hu.seq, hu.busy,
        fun k h hmem => hu.handles ▸ get_resolved hinv.params hlen hmem, hu.inputs, congrArg Seen.results hu.view,
        hsubs, congrArg Seen.writes hu.view⟩

end Sys2Proof.Proofs
end

section
/-! Handles and the device address are opaque: every operation commutes with their renaming (10_state.md R24, R31;
92_eei_decisions.md D23). -/

namespace Sys2Proof.Proofs

open Sys2Proof.Machine

section Rename

variable (f : Handle → Handle) (g : DeviceAddr → DeviceAddr)

/-! ### Handles -/

theorem get_rename (hs : Handles) (k : Endpoint) : (hs.rename f).get k = (hs.get k).map f := by
  cases k <;> rfl

theorem set_rename (hs : Handles) (k : Endpoint) (h : Handle) : (hs.rename f).set k (f h) = (hs.set k h).rename f := by
  cases k <;> rfl

/-! ### The decoder and the encoder read no device address -/

theorem decode_deviceAddr (p : Params) (d : DeviceAddr) (c : Channel) (bs : Bytes) :
    decode { p with deviceAddr := d } c bs = decode p c bs := by
  cases c <;> rfl

theorem encode_deviceAddr (p : Params) (d : DeviceAddr) (i : Instr) :
    encode { p with deviceAddr := d } i = encode p i := by
  cases i <;> rfl

/-! ### Operations that always answer -/

variable (s : State)

theorem accepts_rename : (s.rename f g).accepts = s.accepts := rfl

theorem wait_rename (i : Instr) : (s.rename f g).wait i = (s.wait i).rename f g := by
  simp [State.wait, State.rename, encode_deviceAddr]

theorem abort_rename (r : Result) : (s.rename f g).abort r = (s.abort r).rename f g := by
  have hp : (s.rename f g).params.abortReleasesTransport = s.params.abortReleasesTransport := rfl
  unfold State.abort
  rw [hp]
  split <;> rfl

theorem setHandle_rename (k : Endpoint) (h : Handle) :
    (s.rename f g).setHandle k (f h) = (s.setHandle k h).rename f g := by
  simp [State.setHandle, State.rename, set_rename]

theorem eventNext_rename : (s.rename f g).eventNext = s.eventNext := by
  have hi : (s.rename f g).inputs = s.inputs.map (Input.rename f) := rfl
  unfold State.eventNext
  rw [hi]
  cases s.inputs with
  | nil => rfl
  | cons i rest =>
    cases i with
    | resolved answer => cases answer <;> rfl
    | request bs => rfl
    | event bs => rfl
    | written answer => rfl
    | reset => rfl

theorem drawn_rename : (s.rename f g).drawn = s.drawn.rename f g := by
  unfold State.drawn
  rw [eventNext_rename]
  split <;> rfl

theorem eventFirst_rename : (s.rename f g).eventFirst = s.eventFirst := by
  unfold State.eventFirst
  rw [eventNext_rename]
  rfl

/-! ### Operations that can stop -/

theorem subscribe_rename : (s.rename f g).subscribe = Outcome.rename f g s.subscribe := by
  have hn : (s.rename f g).handles.notify = s.handles.notify.map f := rfl
  unfold State.subscribe
  rw [hn]
  cases s.handles.notify <;> rfl

theorem charWrite_rename (p : Suspended) (k : Endpoint) (v : Bytes) :
    (s.rename f g).charWrite p k v = Outcome.rename f g (s.charWrite p k v) := by
  have hstaged : (s.rename f g).staged p v = s.staged p v := rfl
  have hget : (s.rename f g).handles.get k = (s.handles.get k).map f := get_rename f s.handles k
  unfold State.charWrite
  rw [hstaged, hget]
  split
  · cases s.handles.get k <;> rfl
  · rfl

theorem resolvedAll_rename : (s.rename f g).resolvedAll = Outcome.rename f g s.resolvedAll := by
  have hp : (s.rename f g).params.subscribePoint = s.params.subscribePoint := rfl
  unfold State.resolvedAll
  rw [hp, subscribe_rename]
  cases s.params.subscribePoint with
  | afterResolve => cases s.subscribe <;> rfl
  | afterHandshake => rfl
  | external => rfl

theorem resolveNext_rename (later : List Endpoint) :
    (s.rename f g).resolveNext later = Outcome.rename f g (s.resolveNext later) := by
  cases later with
  | nil => exact resolvedAll_rename f g s
  | cons k later => rfl

theorem handshakeDone_rename : (s.rename f g).handshakeDone = Outcome.rename f g s.handshakeDone := by
  have hp : (s.rename f g).params.subscribePoint = s.params.subscribePoint := rfl
  have hsub := subscribe_rename f g { s with session := .ready }
  unfold State.handshakeDone
  rw [hp]
  cases s.params.subscribePoint with
  | afterHandshake =>
    dsimp only
    rw [show State.subscribe { s.rename f g with session := .ready } = _ from hsub]
    cases State.subscribe { s with session := .ready } <;> rfl
  | afterResolve => rfl
  | external => rfl

theorem handshakeNext_rename (w : HandshakeString) :
    (s.rename f g).handshakeNext w = Outcome.rename f g (s.handshakeNext w) := by
  cases w with
  | hsA => rfl
  | hsT => rfl
  | hsW => exact handshakeDone_rename f g s

theorem awaiting_rename : (s.rename f g).awaiting = s.awaiting := rfl

theorem onResolved_handle_rename (h : Handle) :
    (s.rename f g).onResolved (.handle (f h)) = Outcome.rename f g (s.onResolved (.handle h)) := by
  unfold State.onResolved
  rw [awaiting_rename]
  split
  · dsimp only
    rw [setHandle_rename, resolveNext_rename]
  all_goals rfl

theorem onResolved_notFound_rename :
    (s.rename f g).onResolved .notFound = Outcome.rename f g (s.onResolved .notFound) := by
  unfold State.onResolved
  rw [awaiting_rename]
  split
  · rw [abort_rename]; rfl
  all_goals rfl

theorem onWritten_rename (answer : WriteAnswer) :
    (s.rename f g).onWritten answer = Outcome.rename f g (s.onWritten answer) := by
  unfold State.onWritten
  rw [awaiting_rename]
  split
  · cases answer with
    | ok => exact handshakeNext_rename f g s _
    | err kind => dsimp only; rw [abort_rename]; rfl
  · cases answer <;> rfl
  all_goals rfl

theorem onReset_rename : (s.rename f g).onReset = Outcome.rename f g s.onReset := by
  have hb : (s.rename f g).busy = s.busy := rfl
  unfold State.onReset
  rw [hb]
  split <;> rfl

/-! ### The instructions -/

/-- The first step of an accepted request, in each session. -/
theorem exec_accepted_rename {i : Instr} (hi : i.channel = .request) (ha : s.accepts = true) :
    exec i (s.rename f g) = Outcome.rename f g (exec i s) := by
  have ha' : (s.rename f g).accepts = true := ha
  have hsession : (s.rename f g).session = s.session := rfl
  cases i <;> cases hi
  case connect =>
    simp only [exec, execConnect, ha, ha', if_true, hsession]
    cases s.session with
    | idle => exact resolveNext_rename f g { s with busy := true, session := .handshaking, seq := Config.seqReset } _
    | handshaking =>
      exact resolveNext_rename f g { s with busy := true, session := .handshaking, seq := Config.seqReset } _
    | ready => rfl
    | closed => rfl
  case cmd did cid payload a r =>
    have hseq : (s.rename f g).seq = s.seq := rfl
    simp only [exec, execCmd, ha, ha', if_true, hsession, hseq]
    cases s.session with
    | idle => rfl
    | closed => rfl
    | handshaking => cases encodeFrame { did, cid, payload, a, r, seq := s.seq } <;> rfl
    | ready => cases encodeFrame { did, cid, payload, a, r, seq := s.seq } <;> rfl
  case disconnect =>
    simp only [exec, execDisconnect, ha, ha', if_true, hsession]
    cases s.session <;> rfl
  case encode => rw [exec_encode_of_accepts ha, exec_encode_of_accepts ha']; rfl
  case decode => rw [exec_decode_of_accepts ha, exec_decode_of_accepts ha']; rfl
  case reserved5 => rw [exec_reserved ha (.inl rfl), exec_reserved ha' (.inl rfl)]; rfl
  case reserved6 => rw [exec_reserved ha (.inr (.inl rfl)), exec_reserved ha' (.inr (.inl rfl))]; rfl
  case reserved7 => rw [exec_reserved ha (.inr (.inr rfl)), exec_reserved ha' (.inr (.inr rfl))]; rfl

/-- Requests run or wait. -/
theorem exec_request_rename {i : Instr} (hi : i.channel = .request) :
    exec i (s.rename f g) = Outcome.rename f g (exec i s) := by
  cases ha : s.accepts with
  | false =>
    rw [exec_request_of_not_accepts ha hi, exec_request_of_not_accepts (s := s.rename f g) ha hi, wait_rename]
    rfl
  | true => exact exec_accepted_rename f g s hi ha

/-- Hand-overs use the handle of their endpoint. -/
theorem exec_wire_rename {i : Instr} {k : Endpoint} (hi : i.channel = .wire k) :
    exec i (s.rename f g) = Outcome.rename f g (exec i s) := by
  cases i <;> cases hi
  case frame r a did cid seq len payload c =>
    exact charWrite_rename f g s .command .roll (encode s.params (.frame r a did cid seq len payload c))
  case hsA => exact charWrite_rename f g s ..
  case hsT => exact charWrite_rename f g s ..
  case hsW => exact charWrite_rename f g s ..

theorem exec_rename (i : Instr) : exec i (s.rename f g) = Outcome.rename f g (exec i s) := by
  cases hi : i.channel with
  | request => exact exec_request_rename f g s hi
  | event =>
    cases i <;> cases hi
    have hsession : (s.rename f g).session = s.session := rfl
    simp only [exec, execNotify, hsession]
    cases s.session <;> rfl
  | wire k => exact exec_wire_rename f g s hi

/-! ### The step -/

theorem runWord_rename (c : Channel) (bs : Bytes) :
    (s.rename f g).runWord c bs = Outcome.rename f g (s.runWord c bs) := by
  have hd : decode (s.rename f g).params c bs = decode s.params c bs := decode_deviceAddr s.params _ c bs
  unfold State.runWord
  rw [hd]
  split
  · exact exec_rename f g s _
  · rfl

theorem takeInput_rename : (s.rename f g).takeInput = Outcome.rename f g s.takeInput := by
  have hinputs : (s.rename f g).inputs = s.inputs.map (Input.rename f) := rfl
  cases hi : s.inputs with
  | nil =>
    rw [hi] at hinputs
    simp only [State.takeInput, hi, hinputs, List.map_nil]
    rfl
  | cons i rest =>
    rw [hi, List.map_cons] at hinputs
    cases i with
    | request bs => rw [takeInput_request hi, takeInput_request hinputs]; rfl
    | event bs =>
      rw [takeInput_event hi, takeInput_event hinputs]
      exact runWord_rename f g { s with inputs := rest } .event bs
    | resolved answer =>
      cases answer with
      | handle h =>
        rw [takeInput_resolved hi, takeInput_resolved hinputs]
        exact onResolved_handle_rename f g { s with inputs := rest } h
      | notFound =>
        rw [takeInput_resolved hi, takeInput_resolved hinputs]
        exact onResolved_notFound_rename f g { s with inputs := rest }
    | written answer =>
      rw [takeInput_written hi, takeInput_written hinputs]
      exact onWritten_rename f g { s with inputs := rest } answer
    | reset =>
      rw [takeInput_reset hi, takeInput_reset hinputs]
      exact onReset_rename f g { s with inputs := rest }

theorem serve_rename : (s.rename f g).serve = Outcome.rename f g s.serve := by
  have hport : (s.rename f g).port = s.port := rfl
  unfold State.serve
  rw [hport, accepts_rename, eventFirst_rename, drawn_rename]
  cases s.port with
  | nil => exact takeInput_rename f g s
  | cons bs ps =>
    cases s.accepts with
    | false => exact takeInput_rename f g s
    | true =>
      cases s.eventFirst with
      | true => exact takeInput_rename f g s.drawn
      | false => exact runWord_rename f g { s.drawn with port := ps } .request bs

end Rename

/-- Settles O46: a staged string and the serving of the port both commute with the renaming. -/
theorem handlesOpaque : Obligations.HandlesOpaque := by
  intro f g s
  have hbuf : (s.rename f g).frameBuf = s.frameBuf := rfl
  have hport : (s.rename f g).writePort = s.writePort := rfl
  unfold step
  rw [hbuf, hport]
  cases s.frameBuf with
  | none => exact serve_rename f g s
  | some v =>
    cases s.writePort with
    | none => rfl
    | some k => exact runWord_rename f g s (.wire k) v

end Sys2Proof.Proofs
end
